-- ==== Sys2Proof/Word.lean ====
section
/-!
DEFINITION. The words of the SPI NOR flash controller (00_scope.md rules R9 to R11): bytes, the 64-bit
words of the host port and of the sequencer's registers, and 16-bit identification codes. (The byte
orders of the wire and of a serialised host record stand in Decode.lean.)
-/

namespace Sys2Proof

/-- One byte: a register byte, an opcode byte, a byte of a frame or of the flash array. -/
abbrev Byte := BitVec 8

/-- A 64-bit unsigned word: offsets, lengths, sizes and counts (00_scope.md rule R10). -/
abbrev Word64 := BitVec 64

/-- A 16-bit code of the page-size quirk (41_identification.md rule R158). -/
abbrev Code16 := BitVec 16

end Sys2Proof
end

