-- ==== Sys2Proof/Config.lean ====
section
/-!
DEFINITION. What an implementation fixes before reset and what the environment leaves free.

* The parameters of 00_scope.md rule R6 as one record `Config`; the constraints of rule R7 as the check
  `Config.wf`; the spec's default configuration P0 with the fixture table FX1 (95_test_vectors.md
  section 2) as `Config.p0`.
* The shapes of what crosses the transport port: the exchange `Xfer`, its answer, and the event history's
  entries (20_memory.md rule R62; 10_state.md rule R40).
* The FREE VALUES: opaque constants without a body, one for each input the spec leaves unconstrained
  (93_implementation_defined.md U6 to U10), and three for what a 64-bit register keeps of a natural that does not fit it
  (log entries 6, 7). Nothing can be proved of what they are.
-/

namespace Sys2Proof

/-! ## The chip table -/

/-- The seven capability flags of a descriptor (10_state.md rule R22). -/
structure ChipFlags where
  /-- `SECT_4K`: the chip has a 4 KiB erase. -/
  sect4k : Bool := false
  /-- `RD_DUAL`: the descriptor allows dual read. -/
  rdDual : Bool := false
  /-- `RD_QUAD`: the descriptor allows quad read. -/
  rdQuad : Bool := false
  /-- `WR_QUAD`: the descriptor allows quad program. -/
  wrQuad : Bool := false
  /-- `USE_FSR`: the flag status register must also indicate ready. -/
  useFsr : Bool := false
  /-- `BYTE_PROG`: the chip is programmed a byte or a pair at a time. -/
  byteProg : Bool := false
  /-- `HAS_BP`: the family has protection bits. -/
  hasBp : Bool := false
  deriving DecidableEq, Repr, Inhabited

/-- One row of `CHIP_TABLE` (10_state.md rule R21). -/
structure ChipDescriptor where
  /-- The identification bytes. -/
  id : List Byte
  /-- How many of them are matched. -/
  idLen : Nat
  /-- Bytes in a native sector. -/
  sectorSize : Nat
  /-- Number of native sectors. -/
  sectorCount : Nat
  /-- The program-unit size in bytes, before the quirk. -/
  pageSize : Nat
  flags : ChipFlags
  deriving DecidableEq, Repr, Inhabited

/-- Total capacity is sector size times sector count (10_state.md rule R21). -/
def ChipDescriptor.capacity (d : ChipDescriptor) : Nat := d.sectorSize * d.sectorCount

/-! ## The parameters -/

/-- `RX_MODE`, and the legal values of `dev.read_mode`. -/
inductive RxMode where
  | slow | fast | dual | quad
  deriving DecidableEq, Repr, Inhabited

/-- `TX_MODE`, and the legal values of `dev.write_mode`. -/
inductive TxMode where
  | std | dual | quad
  deriving DecidableEq, Repr, Inhabited

/-- `LOCK_QUERY`: how the "is this range currently locked" check is wired (44_protection_codec.md rule R236). -/
inductive LockQueryMode where
  | absent | external | codec
  deriving DecidableEq, Repr, Inhabited

/-- `UNLOCK_ROUND`: the reading of the unlock rounding (44_protection_codec.md rule R247). -/
inductive UnlockRound where
  | keepTail | freeRequest
  deriving DecidableEq, Repr, Inhabited

/-- How the write payload of a quad procedure is laid out (45_quad_negotiator.md rule R264). -/
inductive PayloadKind where
  | regOnly | srThenReg
  deriving DecidableEq, Repr, Inhabited

/-- A vendor's quad-enable procedure (45_quad_negotiator.md rule R261). -/
structure QuadProc where
  rdOp : Byte
  wrOp : Byte
  /-- The enable bit, as a one-bit mask. -/
  bit : Byte
  payload : PayloadKind
  deriving DecidableEq, Repr, Inhabited

/-- The seventeen opcode parameters `OPC_*` (30_encoding.md rule R104). -/
structure Opcodes where
  rdid : Byte
  rdsr : Byte
  wrsr : Byte
  rdfsr : Byte
  wren : Byte
  wrdi : Byte
  read : Byte
  readFast : Byte
  readDual : Byte
  readQuad : Byte
  readQuadIo : Byte
  pp : Byte
  ppQuad : Byte
  bp : Byte
  aaiWp : Byte
  se : Byte
  be4k : Byte
  deriving DecidableEq, Repr, Inhabited

/-- The parameters of 00_scope.md rule R6: fixed before reset, written by no rule. The function parameter
`ADDR_WIDTH_OF` is held as plain data: a finite map from descriptors (`addrWidthOf`), with the spec's
default width for a descriptor the map does not list (`Config.addrWidth`). -/
structure Config where
  chipTable : List ChipDescriptor
  idMaxLen : Nat
  rxMode : RxMode
  txMode : TxMode
  use4k : Bool
  maxWrite : Option Nat
  hasWindow : Bool
  lockQuery : LockQueryMode
  tProg : Nat
  tErase : Nat
  tQuad : Nat
  addrWidthOf : List (ChipDescriptor × Nat)
  opc : Opcodes
  srWip : Byte
  srBpShift : Nat
  srBpMask : Byte
  fsrReady : Byte
  dummyByte : Byte
  pageQuirkExt : Code16
  /-- `PAGE_QUIRK_EXCEPT`, a set of two codes. -/
  pageQuirkExcept : Code16 × Code16
  /-- `QUAD_VENDOR_TABLE`: the first entry of a key is the key's value. -/
  quadVendors : List (Byte × QuadProc)
  unlockRound : UnlockRound
  deriving DecidableEq, Repr, Inhabited

/-- The default of `ADDR_WIDTH_OF` (00_scope.md rule R6): 3 up to 2^24 bytes, else 4. -/
def defaultAddrWidth (d : ChipDescriptor) : Nat := if d.capacity ≤ 2 ^ 24 then 3 else 4

/-- `ADDR_WIDTH_OF(d)`. -/
def Config.addrWidth (c : Config) (d : ChipDescriptor) : Nat :=
  match c.addrWidthOf.find? (fun e => e.1 == d) with
  | some e => e.2
  | none => defaultAddrWidth d

/-- `QUAD_VENDOR_TABLE[vid]`, `none` when `vid` is no key of the map (45_quad_negotiator.md rule R262). -/
def Config.vendorProc (c : Config) (vid : Byte) : Option QuadProc :=
  (c.quadVendors.find? (fun e => e.1 == vid)).map (fun e => e.2)

/-! ## The constraints of rule R7 -/

/-- What rule R7 asks of one descriptor, with the constraints of 10_state.md rule R21 and the range 1..8 of `ADDR_WIDTH_OF`
(rule R6). A page has no upper bound: what `dev.page_size` keeps of one that does not fit is the free value
`Config.widePage`. -/
def Config.descriptorOk (c : Config) (d : ChipDescriptor) : Bool :=
  decide (1 ≤ d.idLen) && decide (d.idLen ≤ d.id.length) && decide (d.idLen ≤ c.idMaxLen)
  && decide (1 ≤ d.sectorSize) && decide (1 ≤ d.sectorCount) && decide (1 ≤ d.pageSize)
  && decide (d.capacity < 2 ^ 64)
  && decide (1 ≤ c.addrWidth d) && decide (c.addrWidth d ≤ 8)
  && decide (d.capacity ≤ 2 ^ (8 * c.addrWidth d))
  && (!(d.flags.sect4k && c.use4k) || decide (d.sectorSize % 4096 = 0))

/-- A mask with exactly one bit set: the type rule R261 gives `QuadProc.bit`. -/
def isOneBit (b : Byte) : Bool := (List.range 8).any (fun k => b == 1#8 <<< k)

/-- The constraints a configuration must meet (00_scope.md rule R7, with the types of rule R6). A timeout has no
bound: what `q.TMO` keeps of one that does not fit is the free value `Config.wideTimeout`. -/
def Config.wf (c : Config) : Bool :=
  c.chipTable.all c.descriptorOk
  && decide (1 ≤ c.idMaxLen)
  && (match c.maxWrite with | none => true | some m => decide (1 ≤ m))
  && decide (c.tProg < c.tErase)
  && decide (c.srBpShift ≤ 5) && decide (c.srBpMask = 7#8 <<< c.srBpShift)
  && c.quadVendors.all (fun e => isOneBit e.2.bit)

/-! ## What crosses the transport port -/

/-- One exchange as the controller asks for it (20_memory.md rule R62): the frame bytes, the bytes sent
after it, the number of bytes to receive after it. -/
structure Xfer where
  cmd : List Byte
  tx : Option (List Byte)
  rxn : Option Nat
  deriving DecidableEq, Repr, Inhabited

/-- The transport's error value: opaque to the controller (92_eei_decisions.md D43), held as a number. -/
abbrev TransportCause := Nat

/-- The result of one exchange (20_memory.md rule R62). -/
inductive Answer where
  | err (cause : TransportCause)
  | ok (rx : List Byte)
  deriving DecidableEq, Repr, Inhabited

/-- What `q.CAUSE` and `rsp.cause` hold: the transport's value verbatim, or the distinguished value
`SHORT` (20_memory.md rule R65). -/
inductive Cause where
  | transport (cause : TransportCause)
  | short
  deriving DecidableEq, Repr, Inhabited

/-- One entry of the event history (10_state.md rule R40). A clock sample is a natural number of ticks (60_exceptions.md
rule R325). -/
inductive Event where
  | xfer (x : Xfer) (result : Answer)
  | clock (sample : Nat)
  deriving DecidableEq, Repr, Inhabited

/-! ## Free values

Each is an arbitrary function of the event's own number (and of what the event may depend on); it is used only
where the environment's plain-data inputs in `State` are exhausted (log entry 2), the last four where their own
docstrings say. -/

/-- The transport's and chip's answer to the exchange numbered `n`, asked after the history `h`
(20_memory.md rule R64; 93_implementation_defined.md U8). Clipped to a legal answer where it is used. -/
opaque Config.oracle : Nat → List Event → Xfer → Answer

/-- The clock's sample numbered `n` (60_exceptions.md rule R325; U10), a natural. Made non-decreasing where it is
used. -/
opaque Config.clock : Nat → Nat

/-- What the 64-bit register `q.T0` (10_state.md rule R26) keeps of the entry sample numbered `n` whose ticks do not fit
64 bits: no rule says (60_exceptions.md rule R325 makes a sample a natural). DESIGN CHOICE (log entry 7). -/
opaque Config.wideSample : Nat → Nat → Word64

/-- What the 64-bit register `q.TMO` (10_state.md rule R26) keeps, at the entry sample numbered `n`, of a timeout whose
ticks do not fit 64 bits: no rule says (00_scope.md rule R6 makes a timeout a natural). DESIGN CHOICE (log entry 7). -/
opaque Config.wideTimeout : Nat → Nat → Word64

/-- What the 64-bit register `dev.page_size` (10_state.md rule R25) keeps of an effective program-unit size `p` that does
not fit 64 bits: no rule says (00_scope.md rule R7 does not bound a page). Made at least 1, as rule R25 says, where it is
used. DESIGN CHOICE (log entry 6). -/
opaque Config.widePage : Nat → Word64

/-- The lock collaborator's answer to query `n` about `(off, len)` under `LOCK_QUERY = EXTERNAL`
(44_protection_codec.md rule R236; U9). -/
opaque Config.lockAnswer : Nat → Word64 → Word64 → Option Bool

/-- The byte that window copy `n` shows at flash address `a` (20_memory.md rule R70; U7). -/
opaque Config.windowByte : Nat → Nat → Byte

/-- What `rsp.rbuf` holds after the failed READ numbered `n` (43_program_erase_read.md rule R191; U6). -/
opaque Config.failedReadBuf : Nat → List Byte

/-! ## The default configuration and the fixture table -/

/-- The default opcode bytes (30_encoding.md rule R104, 93_implementation_defined.md G1). -/
def Opcodes.defaults : Opcodes :=
  { rdid := 0x9F, rdsr := 0x05, wrsr := 0x01, rdfsr := 0x70, wren := 0x06, wrdi := 0x04,
    read := 0x03, readFast := 0x0B, readDual := 0x3B, readQuad := 0x6B, readQuadIo := 0xEB,
    pp := 0x02, ppQuad := 0x32, bp := 0x02, aaiWp := 0xAD, se := 0xD8, be4k := 0x20 }

/-- The fictitious chip table FX1 (95_test_vectors.md section 2). -/
def fixtureTable : List ChipDescriptor :=
  [ { id := [0xC2, 0x20, 0x17], idLen := 3, sectorSize := 0x10000, sectorCount := 128, pageSize := 256,
      flags := { sect4k := true, rdDual := true, rdQuad := true, wrQuad := true, hasBp := true } },
    { id := [0x01, 0x02, 0x19, 0x4D, 0x00], idLen := 5, sectorSize := 0x10000, sectorCount := 512,
      pageSize := 256, flags := { rdQuad := true, hasBp := true } },
    { id := [0x01, 0x02, 0x15, 0x4D, 0x00], idLen := 5, sectorSize := 0x10000, sectorCount := 64,
      pageSize := 256, flags := { hasBp := true } },
    { id := [0xBF, 0x25, 0x8E], idLen := 3, sectorSize := 0x10000, sectorCount := 16, pageSize := 256,
      flags := { sect4k := true, byteProg := true } },
    { id := [0x20, 0xBA, 0x18], idLen := 3, sectorSize := 0x10000, sectorCount := 256, pageSize := 256,
      flags := { sect4k := true, useFsr := true, rdQuad := true, hasBp := true } },
    { id := [0x01, 0x02], idLen := 2, sectorSize := 0x10000, sectorCount := 32, pageSize := 256,
      flags := {} },
    { id := [0x1F, 0x60, 0x00], idLen := 3, sectorSize := 0x10000, sectorCount := 96, pageSize := 256,
      flags := { hasBp := true } } ]

/-- The example vendor table G11 (93_implementation_defined.md). -/
def exampleVendors : List (Byte × QuadProc) :=
  [ (0xC2, { rdOp := 0x05, wrOp := 0x01, bit := 0x40, payload := .regOnly }),
    (0x01, { rdOp := 0x35, wrOp := 0x01, bit := 0x02, payload := .srThenReg }),
    (0xEF, { rdOp := 0x35, wrOp := 0x01, bit := 0x02, payload := .srThenReg }) ]

/-- The default configuration P0 (95_test_vectors.md section 2). DESIGN CHOICE (log entry 1): the source
fixes none of these numbers; only `State.reset`, the host's `decodeTableWord` and the tests use them, and
the machine reads every parameter from the state. -/
def Config.p0 : Config :=
  { chipTable := fixtureTable, idMaxLen := 5, rxMode := .fast, txMode := .std, use4k := false,
    maxWrite := none, hasWindow := false, lockQuery := .codec, tProg := 100, tErase := 1000, tQuad := 100,
    addrWidthOf := [], opc := Opcodes.defaults, srWip := 0x01, srBpShift := 2, srBpMask := 0x1C,
    fsrReady := 0x80, dummyByte := 0x00, pageQuirkExt := 0x4D00, pageQuirkExcept := (0x0215, 0x0216),
    quadVendors := exampleVendors, unlockRound := .keepTail }

end Sys2Proof
end

