-- ==== Sys2Proof/Syntax.lean ====
section
/-!
DEFINITION. The instructions: one constructor for each row of spec/opcode_table.json, the nine host
commands of 30_encoding.md rule R92 first, then the nineteen flash command frames of rule R104. A host
command is what the sequencer executes in `S_IDLE` (one acceptance step); a frame is what it executes in
any other rest state that issues an exchange (46_sequencer.md rule R277). Also the host command record
(rule R91) and the frame symbols (rule R105).
-/

namespace Sys2Proof

/-- The instructions of the controller. Addresses, offsets and lengths are 64-bit unsigned
(20_memory.md rule R61); payloads are byte sequences. -/
inductive Instr where
  /-- IDENTIFY (41_identification.md rule R150). The record's `offset` and `len`, which the command ignores, are
  still loaded into `q.OFF` and `q.LEN` and reported on failure (60_exceptions.md rule R311); so for GEOMETRY
  and REPROBE. -/
  | identify (offset len : Word64)
  /-- READ offset, len, the host command (43_program_erase_read.md rule R191). -/
  | read (offset len : Word64)
  /-- WRITE offset, len, wbuf (43_program_erase_read.md rule R194). -/
  | write (offset len : Word64) (wbuf : List Byte)
  /-- ERASE offset, len (43_program_erase_read.md rule R208). -/
  | erase (offset len : Word64)
  /-- LOCK offset, len (44_protection_codec.md rule R240). -/
  | lock (offset len : Word64)
  /-- UNLOCK offset, len (44_protection_codec.md rule R245). -/
  | unlock (offset len : Word64)
  /-- GEOMETRY (41_identification.md rule R172). -/
  | geometry (offset len : Word64)
  /-- REPROBE (41_identification.md rule R170). -/
  | reprobe (offset len : Word64)
  /-- IS_LOCKED offset, len (44_protection_codec.md rule R235). -/
  | isLocked (offset len : Word64)
  /-- Frame RDID (40_register_access.md rule R131). -/
  | rdid
  /-- Frame RDSR (40_register_access.md rule R132). -/
  | rdsr
  /-- Frame WRSR with its payload (40_register_access.md rule R133). -/
  | wrsr (payload : List Byte)
  /-- Frame RDFSR (40_register_access.md rule R134). -/
  | rdfsr
  /-- Frame WREN (40_register_access.md rule R135). -/
  | wren
  /-- Frame WRDI (40_register_access.md rule R136). -/
  | wrdi
  /-- Frame RDVR; `op` is the `rd_op` of the vendor's procedure (40_register_access.md rule R137). -/
  | rdvr (op : Byte)
  /-- Frame WRVR; `op` is the `wr_op` of the vendor's procedure (40_register_access.md rule R138). -/
  | wrvr (op : Byte) (payload : List Byte)
  /-- Array read frame READ, `n` bytes from `addr` (43_program_erase_read.md rule R192). -/
  | readFrame (addr n : Word64)
  /-- Array read frame READ_FAST (43_program_erase_read.md rule R192). -/
  | readFast (addr n : Word64)
  /-- Array read frame READ_DUAL (43_program_erase_read.md rule R192). -/
  | readDual (addr n : Word64)
  /-- Array read frame READ_QUAD (43_program_erase_read.md rule R192). -/
  | readQuad (addr n : Word64)
  /-- Array read frame READ_QUAD_IO, selected by no rule (43_program_erase_read.md rule R193). -/
  | readQuadIo (addr n : Word64)
  /-- Program frame PP (43_program_erase_read.md rule R196). -/
  | pp (addr : Word64) (data : List Byte)
  /-- Program frame PP_QUAD (43_program_erase_read.md rule R196). -/
  | ppQuad (addr : Word64) (data : List Byte)
  /-- Program frame BP, one byte (43_program_erase_read.md rule R203). -/
  | bp (addr : Word64) (data : List Byte)
  /-- Program frame AAI_WP, a pair of bytes (43_program_erase_read.md rule R203). -/
  | aaiWp (addr : Word64) (data : List Byte)
  /-- Erase frame SE (43_program_erase_read.md rule R210). -/
  | se (addr : Word64)
  /-- Erase frame BE_4K (43_program_erase_read.md rule R210). -/
  | be4k (addr : Word64)
  deriving DecidableEq, Repr, Inhabited

/-- Format H, the host command record (30_encoding.md rule R91): the code in bits 7:0 of the first word,
two further words, and the buffer of a WRITE. -/
structure CommandRecord where
  word0 : Word64
  offset : Word64
  len : Word64
  wbuf : List Byte
  deriving DecidableEq, Repr, Inhabited

/-- The symbols of the nineteen frames (30_encoding.md rule R104). The rules tell frames apart by their
role, not by comparing opcode bytes (rule R105): the symbol is the role. -/
inductive FrameKind where
  | rdid | rdsr | wrsr | rdfsr | wren | wrdi | rdvr | wrvr
  | readFrame | readFast | readDual | readQuad | readQuadIo
  | pp | ppQuad | bp | aaiWp | se | be4k
  deriving DecidableEq, Repr, Inhabited

/-- The frame symbol of an instruction, `none` for a host command. -/
def Instr.kind : Instr → Option FrameKind
  | .identify _ _ => none
  | .read _ _ => none
  | .write _ _ _ => none
  | .erase _ _ => none
  | .lock _ _ => none
  | .unlock _ _ => none
  | .geometry _ _ => none
  | .reprobe _ _ => none
  | .isLocked _ _ => none
  | .rdid => some .rdid
  | .rdsr => some .rdsr
  | .wrsr _ => some .wrsr
  | .rdfsr => some .rdfsr
  | .wren => some .wren
  | .wrdi => some .wrdi
  | .rdvr _ => some .rdvr
  | .wrvr _ _ => some .wrvr
  | .readFrame _ _ => some .readFrame
  | .readFast _ _ => some .readFast
  | .readDual _ _ => some .readDual
  | .readQuad _ _ => some .readQuad
  | .readQuadIo _ _ => some .readQuadIo
  | .pp _ _ => some .pp
  | .ppQuad _ _ => some .ppQuad
  | .bp _ _ => some .bp
  | .aaiWp _ _ => some .aaiWp
  | .se _ => some .se
  | .be4k _ => some .be4k

/-- The flash address in a frame's address part (30_encoding.md rule R100); `none` for a frame without one and for a host
command. -/
def Instr.address : Instr → Option Word64
  | .identify _ _ => none
  | .read _ _ => none
  | .write _ _ _ => none
  | .erase _ _ => none
  | .lock _ _ => none
  | .unlock _ _ => none
  | .geometry _ _ => none
  | .reprobe _ _ => none
  | .isLocked _ _ => none
  | .rdid => none
  | .rdsr => none
  | .wrsr _ => none
  | .rdfsr => none
  | .wren => none
  | .wrdi => none
  | .rdvr _ => none
  | .wrvr _ _ => none
  | .readFrame a _ => some a
  | .readFast a _ => some a
  | .readDual a _ => some a
  | .readQuad a _ => some a
  | .readQuadIo a _ => some a
  | .pp a _ => some a
  | .ppQuad a _ => some a
  | .bp a _ => some a
  | .aaiWp a _ => some a
  | .se a => some a
  | .be4k a => some a

/-- Whether an instruction is one of the nine host commands. -/
def Instr.isHost (i : Instr) : Bool := i.kind.isNone

end Sys2Proof
end

