-- ==== Sys2Proof/WellFormed.lean ====
section
/-!
DEFINITION. Which instructions the encodings admit (30_encoding.md rules R91, R100 to R104): the buffer of
a WRITE has exactly `len` bytes; an address fits the address bytes of a frame; a payload has a length the
frame's row allows.
-/

namespace Sys2Proof

/-- What the transport side must know beside the opcode to tell a frame's length (30_encoding.md rule
R103): the address width in bytes, and how many dummy bytes the selected read opcode takes
(`dev.read_dummy / 8`, rule R102). -/
structure FrameGeom where
  addrWidth : Nat
  dummyBytes : Nat
  deriving DecidableEq, Repr, Inhabited

/-- The address fits the frame's address part and is not cut short (20_memory.md rule R61). -/
def addrFits (g : FrameGeom) (addr : Word64) : Bool := decide (addr.toNat < 2 ^ (8 * g.addrWidth))

/-- A program payload: at least one byte, and a length a 64-bit register can hold (20_memory.md rule R75). -/
def payloadFits (data : List Byte) : Bool := decide (1 ≤ data.length) && decide (data.length < 2 ^ 64)

/-- The payload of a register write: one byte, or two (30_encoding.md rule R104). -/
def registerPayload (p : List Byte) : Bool := p.length == 1 || p.length == 2

/-- Well-formed instructions, given the geometry in force. -/
def Instr.wf (g : FrameGeom) : Instr → Bool
  | .identify _ _ => true
  | .read _ _ => true
  | .write _ len wbuf => wbuf.length == len.toNat
  | .erase _ _ => true
  | .lock _ _ => true
  | .unlock _ _ => true
  | .geometry _ _ => true
  | .reprobe _ _ => true
  | .isLocked _ _ => true
  | .rdid => true
  | .rdsr => true
  | .wrsr p => registerPayload p
  | .rdfsr => true
  | .wren => true
  | .wrdi => true
  | .rdvr _ => true
  | .wrvr _ p => registerPayload p
  | .readFrame a n => addrFits g a && n != 0
  | .readFast a n => addrFits g a && n != 0
  | .readDual a n => addrFits g a && n != 0
  | .readQuad a n => addrFits g a && n != 0
  | .readQuadIo a n => addrFits g a && n != 0
  | .pp a d => addrFits g a && payloadFits d
  | .ppQuad a d => addrFits g a && payloadFits d
  | .bp a d => addrFits g a && d.length == 1
  | .aaiWp a d => addrFits g a && d.length == 2
  | .se a => addrFits g a
  | .be4k a => addrFits g a

end Sys2Proof
end

