-- ==== Sys2Proof/Decode.lean ====
section
/-!
DEFINITION. Encodings of both interfaces and their decoders (30_encoding.md).

* Upward: the host command record of format H (rules R91 to R93, R96), as a record and as little-endian
  bytes. This is what the controller itself decodes: by `code` alone, mask 0xFF.
* Downward: the frames (rules R100 to R104). The controller issues frames and never decodes one; the decoder
  here is the transport side's, which tells frames apart by their role (rule R105), so that a frame is decoded
  given its symbol.

Every decoder is total and refuses by a named `DecodeError`. The encoders stand after the decoders.
-/

namespace Sys2Proof

/-! ## Byte orders -/

/-- `bytes_be(v, n)`: the `n` low bytes of `v`, most significant first (00_scope.md rule R11). -/
def bytesBE (v : Nat) : Nat → List Byte
  | 0 => []
  | n + 1 => BitVec.ofNat 8 (v >>> (8 * n)) :: bytesBE v n

/-- The number whose bytes are `bs`, most significant first. -/
def natOfBE (bs : List Byte) : Nat := bs.foldl (fun acc b => 256 * acc + b.toNat) 0

/-- The `n` low bytes of `v`, least significant first: a serialised host record (30_encoding.md rule R91). -/
def bytesLE (v : Nat) : Nat → List Byte
  | 0 => []
  | n + 1 => BitVec.ofNat 8 v :: bytesLE (v >>> 8) n

/-- The number whose bytes are `bs`, least significant first. -/
def natOfLE : List Byte → Nat
  | [] => 0
  | b :: bs => b.toNat + 256 * natOfLE bs

/-! ## Decoding -/

/-- Why a decoder refuses. Raised by `decodeRecord`, `recordOfBytes` and `decodeFrame`; safe: nothing is run. -/
inductive DecodeError where
  /-- Fewer bytes than the record's three words and buffer. -/
  | truncated
  /-- A code that names no command: 0x00 and 0x0A to 0xFF (30_encoding.md rule R96). -/
  | reservedCode (code : Byte)
  /-- A WRITE whose buffer has not exactly `len` bytes (30_encoding.md rule R91). -/
  | bufferLength
  /-- A frame without an opcode byte, or with another opcode byte than its symbol's. -/
  | wrongOpcode
  /-- A frame whose address or dummy part has not the length of its class (rule R103). -/
  | frameLength
  /-- Dummy bytes that are not `DUMMY_BYTE` (rule R102). -/
  | dummyBytes
  /-- A payload, or a number of bytes to receive, that the frame's row does not have (rule R104). -/
  | payload
  deriving DecidableEq, Repr, Inhabited

/-- The command code: bits 7:0 of the first word (30_encoding.md rules R91, R93). -/
def CommandRecord.code (r : CommandRecord) : Byte := r.word0.setWidth 8

/-- Decoding a host command record, by `code` alone (30_encoding.md rules R92, R93, R96). A buffer beside a command other
than WRITE, which rule R91 calls absent there, is ignored (log entry 29, DESIGN CHOICE); a WRITE whose buffer has not `len`
bytes is refused (log entry 11). -/
def decodeRecord (r : CommandRecord) : Except DecodeError Instr :=
  match r.code with
  | 0x01#8 => .ok (.identify r.offset r.len)
  | 0x02#8 => .ok (.read r.offset r.len)
  | 0x03#8 =>
    if r.wbuf.length = r.len.toNat then .ok (.write r.offset r.len r.wbuf) else .error .bufferLength
  | 0x04#8 => .ok (.erase r.offset r.len)
  | 0x05#8 => .ok (.lock r.offset r.len)
  | 0x06#8 => .ok (.unlock r.offset r.len)
  | 0x07#8 => .ok (.geometry r.offset r.len)
  | 0x08#8 => .ok (.reprobe r.offset r.len)
  | 0x09#8 => .ok (.isLocked r.offset r.len)
  | c => .error (.reservedCode c)

/-- One command record from a byte stream, and the rest of the stream: three 64-bit words, each little-endian
(30_encoding.md rule R91), and after them, for a WRITE, its `len` buffer bytes. That the buffer stands there is the
model's: R91 says only that it accompanies the record. DESIGN CHOICE (log entry 30). -/
def recordOfBytes (bs : List Byte) : Except DecodeError (CommandRecord × List Byte) :=
  if bs.length < 24 then .error .truncated
  else
    let w0 : Word64 := BitVec.ofNat 64 (natOfLE (bs.take 8))
    let off : Word64 := BitVec.ofNat 64 (natOfLE ((bs.drop 8).take 8))
    let len : Word64 := BitVec.ofNat 64 (natOfLE ((bs.drop 16).take 8))
    let tail := bs.drop 24
    if w0.setWidth 8 = 0x03#8 then
      if tail.length < len.toNat then .error .truncated
      else .ok ({ word0 := w0, offset := off, len := len, wbuf := tail.take len.toNat }, tail.drop len.toNat)
    else .ok ({ word0 := w0, offset := off, len := len, wbuf := [] }, tail)

/-- Decoding a host command from a byte stream: the instruction and the rest of the stream. -/
def decodeBytes (bs : List Byte) : Except DecodeError (Instr × List Byte) :=
  match recordOfBytes bs with
  | .error e => .error e
  | .ok (r, rest) =>
    match decodeRecord r with
    | .error e => .error e
    | .ok i => .ok (i, rest)

/-- The opcode byte of a frame symbol (30_encoding.md rule R104, column `param`); `none` for the two frames
whose byte comes from the vendor table. -/
def FrameKind.opcode (o : Opcodes) : FrameKind → Option Byte
  | .rdid => some o.rdid
  | .rdsr => some o.rdsr
  | .wrsr => some o.wrsr
  | .rdfsr => some o.rdfsr
  | .wren => some o.wren
  | .wrdi => some o.wrdi
  | .rdvr => none
  | .wrvr => none
  | .readFrame => some o.read
  | .readFast => some o.readFast
  | .readDual => some o.readDual
  | .readQuad => some o.readQuad
  | .readQuadIo => some o.readQuadIo
  | .pp => some o.pp
  | .ppQuad => some o.ppQuad
  | .bp => some o.bp
  | .aaiWp => some o.aaiWp
  | .se => some o.se
  | .be4k => some o.be4k

/-- A frame of class F0: the opcode byte alone (30_encoding.md rule R103). -/
def decodeBare (rest : List Byte) (k : Except DecodeError Instr) : Except DecodeError Instr :=
  if rest = [] then k else .error .frameLength

/-- A frame of class FA: the opcode byte and the address, most significant byte first (rules R101, R103). -/
def decodeAddressed (g : FrameGeom) (rest : List Byte) (k : Word64 → Except DecodeError Instr) :
    Except DecodeError Instr :=
  if rest.length = g.addrWidth then k (BitVec.ofNat 64 (natOfBE rest)) else .error .frameLength

/-- A frame of class FAD: opcode byte, address, `dummies` dummy bytes, and `n` bytes received
(rules R102, R103). -/
def decodeArrayRead (c : Config) (g : FrameGeom) (dummies : Nat) (x : Xfer) (rest : List Byte)
    (k : Word64 → Word64 → Instr) : Except DecodeError Instr :=
  if rest.length = g.addrWidth + dummies then
    if rest.drop g.addrWidth = List.replicate dummies c.dummyByte then
      match x.tx, x.rxn with
      | none, some n =>
        if 1 ≤ n ∧ n < 2 ^ 64 then
          .ok (k (BitVec.ofNat 64 (natOfBE (rest.take g.addrWidth))) (BitVec.ofNat 64 n))
        else .error .payload
      | _, _ => .error .payload
    else .error .dummyBytes
  else .error .frameLength

/-- A frame that only receives `n` bytes. -/
def decodeReceive (x : Xfer) (n : Nat) (i : Instr) : Except DecodeError Instr :=
  if x.tx = none ∧ x.rxn = some n then .ok i else .error .payload

/-- A frame that only sends a payload the check `ok` admits. -/
def decodeSend (x : Xfer) (ok : List Byte → Bool) (k : List Byte → Instr) : Except DecodeError Instr :=
  match x.tx, x.rxn with
  | some p, none => if ok p then .ok (k p) else .error .payload
  | _, _ => .error .payload

/-- A frame without payload. -/
def decodeSilent (x : Xfer) (i : Instr) : Except DecodeError Instr :=
  if x.tx = none ∧ x.rxn = none then .ok i else .error .payload

/-- The transport side's decoder of a frame of symbol `k` (30_encoding.md rules R100 to R104). -/
def decodeFrame (c : Config) (g : FrameGeom) (k : FrameKind) (x : Xfer) : Except DecodeError Instr :=
  match x.cmd with
  | [] => .error .wrongOpcode
  | op :: rest =>
    if (k.opcode c.opc).any (fun o => o != op) then .error .wrongOpcode
    else
      match k with
      | .rdid => decodeBare rest (decodeReceive x c.idMaxLen .rdid)
      | .rdsr => decodeBare rest (decodeReceive x 1 .rdsr)
      | .wrsr => decodeBare rest (decodeSend x registerPayload .wrsr)
      | .rdfsr => decodeBare rest (decodeReceive x 1 .rdfsr)
      | .wren => decodeBare rest (decodeSilent x .wren)
      | .wrdi => decodeBare rest (decodeSilent x .wrdi)
      | .rdvr => decodeBare rest (decodeReceive x 1 (.rdvr op))
      | .wrvr => decodeBare rest (decodeSend x registerPayload (.wrvr op))
      | .readFrame => decodeArrayRead c g g.dummyBytes x rest .readFrame
      | .readFast => decodeArrayRead c g g.dummyBytes x rest .readFast
      | .readDual => decodeArrayRead c g g.dummyBytes x rest .readDual
      | .readQuad => decodeArrayRead c g g.dummyBytes x rest .readQuad
      | .readQuadIo => decodeArrayRead c g 2 x rest .readQuadIo
      | .pp => decodeAddressed g rest (fun a => decodeSend x payloadFits (.pp a))
      | .ppQuad => decodeAddressed g rest (fun a => decodeSend x payloadFits (.ppQuad a))
      | .bp => decodeAddressed g rest (fun a => decodeSend x (fun d => d.length == 1) (.bp a))
      | .aaiWp => decodeAddressed g rest (fun a => decodeSend x (fun d => d.length == 2) (.aaiWp a))
      | .se => decodeAddressed g rest (fun a => decodeSilent x (.se a))
      | .be4k => decodeAddressed g rest (fun a => decodeSilent x (.be4k a))

/-! ## Encoding -/

/-- The record with code `c` (30_encoding.md rule R91); bits 63:8 of the first word are 0. -/
def commandRecord (c : Byte) (offset len : Word64) (wbuf : List Byte) : CommandRecord :=
  { word0 := c.setWidth 64, offset := offset, len := len, wbuf := wbuf }

/-- The command record of a host command (30_encoding.md rule R92); `none` for a frame. -/
def encodeRecord : Instr → Option CommandRecord
  | .identify off len => some (commandRecord 0x01 off len [])
  | .read off len => some (commandRecord 0x02 off len [])
  | .write off len wbuf => some (commandRecord 0x03 off len wbuf)
  | .erase off len => some (commandRecord 0x04 off len [])
  | .lock off len => some (commandRecord 0x05 off len [])
  | .unlock off len => some (commandRecord 0x06 off len [])
  | .geometry off len => some (commandRecord 0x07 off len [])
  | .reprobe off len => some (commandRecord 0x08 off len [])
  | .isLocked off len => some (commandRecord 0x09 off len [])
  | .rdid => none
  | .rdsr => none
  | .wrsr _ => none
  | .rdfsr => none
  | .wren => none
  | .wrdi => none
  | .rdvr _ => none
  | .wrvr _ _ => none
  | .readFrame _ _ => none
  | .readFast _ _ => none
  | .readDual _ _ => none
  | .readQuad _ _ => none
  | .readQuadIo _ _ => none
  | .pp _ _ => none
  | .ppQuad _ _ => none
  | .bp _ _ => none
  | .aaiWp _ _ => none
  | .se _ => none
  | .be4k _ => none

/-- A record as bytes: three words, each little-endian (30_encoding.md rule R91), then the buffer, whose place
is the model's. DESIGN CHOICE (log entry 30). -/
def bytesOfRecord (r : CommandRecord) : List Byte :=
  bytesLE r.word0.toNat 8 ++ bytesLE r.offset.toNat 8 ++ bytesLE r.len.toNat 8 ++ r.wbuf

/-- The bytes of a host command; `none` for a frame. -/
def encodeBytes (i : Instr) : Option (List Byte) := (encodeRecord i).map bytesOfRecord

/-- The address part of a frame (30_encoding.md rule R101). -/
def addressPart (g : FrameGeom) (a : Word64) : List Byte := bytesBE a.toNat g.addrWidth

/-- The exchange of an array read frame: `[op] || A || D`, receiving `n` bytes (rules R100 to R102). -/
def arrayReadXfer (c : Config) (g : FrameGeom) (op : Byte) (dummies : Nat) (a n : Word64) : Xfer :=
  { cmd := op :: (addressPart g a ++ List.replicate dummies c.dummyByte), tx := none, rxn := some n.toNat }

/-- The exchange of a frame that receives `n` bytes after its opcode byte. -/
def receiveXfer (op : Byte) (n : Nat) : Xfer := { cmd := [op], tx := none, rxn := some n }

/-- The exchange of a frame that sends `p` after its opcode byte. -/
def sendXfer (op : Byte) (p : List Byte) : Xfer := { cmd := [op], tx := some p, rxn := none }

/-- The exchange of a frame that is its opcode byte alone. -/
def silentXfer (op : Byte) : Xfer := { cmd := [op], tx := none, rxn := none }

/-- The exchange of a program frame. -/
def programXfer (g : FrameGeom) (op : Byte) (a : Word64) (data : List Byte) : Xfer :=
  { cmd := op :: addressPart g a, tx := some data, rxn := none }

/-- The exchange of an erase frame. -/
def eraseXfer (g : FrameGeom) (op : Byte) (a : Word64) : Xfer :=
  { cmd := op :: addressPart g a, tx := none, rxn := none }

/-- The exchange that issues a frame (30_encoding.md rules R100 to R104); `none` for a host command. -/
def encodeFrame (c : Config) (g : FrameGeom) : Instr → Option Xfer
  | .identify _ _ => none
  | .read _ _ => none
  | .write _ _ _ => none
  | .erase _ _ => none
  | .lock _ _ => none
  | .unlock _ _ => none
  | .geometry _ _ => none
  | .reprobe _ _ => none
  | .isLocked _ _ => none
  | .rdid => some (receiveXfer c.opc.rdid c.idMaxLen)
  | .rdsr => some (receiveXfer c.opc.rdsr 1)
  | .wrsr p => some (sendXfer c.opc.wrsr p)
  | .rdfsr => some (receiveXfer c.opc.rdfsr 1)
  | .wren => some (silentXfer c.opc.wren)
  | .wrdi => some (silentXfer c.opc.wrdi)
  | .rdvr op => some (receiveXfer op 1)
  | .wrvr op p => some (sendXfer op p)
  | .readFrame a n => some (arrayReadXfer c g c.opc.read g.dummyBytes a n)
  | .readFast a n => some (arrayReadXfer c g c.opc.readFast g.dummyBytes a n)
  | .readDual a n => some (arrayReadXfer c g c.opc.readDual g.dummyBytes a n)
  | .readQuad a n => some (arrayReadXfer c g c.opc.readQuad g.dummyBytes a n)
  | .readQuadIo a n => some (arrayReadXfer c g c.opc.readQuadIo 2 a n)
  | .pp a d => some (programXfer g c.opc.pp a d)
  | .ppQuad a d => some (programXfer g c.opc.ppQuad a d)
  | .bp a d => some (programXfer g c.opc.bp a d)
  | .aaiWp a d => some (programXfer g c.opc.aaiWp a d)
  | .se a => some (eraseXfer g c.opc.se a)
  | .be4k a => some (eraseXfer g c.opc.be4k a)

/-! ## The opcode table's words -/

/-- The geometry the opcode table's frame words are read with: three address bytes, and as many dummy bytes
as the table's row gives the frame. -/
def FrameKind.tableGeom : FrameKind → FrameGeom
  | .readFast | .readDual | .readQuad => { addrWidth := 3, dummyBytes := 1 }
  | _ => { addrWidth := 3, dummyBytes := 0 }

/-- The length of a frame of symbol `k` (30_encoding.md rule R103). -/
def FrameKind.frameLength (g : FrameGeom) : FrameKind → Nat
  | .rdid | .rdsr | .wrsr | .rdfsr | .wren | .wrdi | .rdvr | .wrvr => 1
  | .readFrame | .readFast | .readDual | .readQuad => 1 + g.addrWidth + g.dummyBytes
  | .readQuadIo => 1 + g.addrWidth + 2
  | .pp | .ppQuad | .bp | .aaiWp | .se | .be4k => 1 + g.addrWidth

/-- The shortest exchange of symbol `k` whose frame begins with the bytes `bs` and whose payload follows
them: the exchange a table word stands for. -/
def FrameKind.tableXfer (c : Config) (k : FrameKind) (bs : List Byte) : Xfer :=
  let n := k.frameLength k.tableGeom
  let send (m : Nat) : Option (List Byte) := some ((bs.drop n).take m)
  match k with
  | .rdid => { cmd := bs.take n, tx := none, rxn := some c.idMaxLen }
  | .rdsr | .rdfsr | .rdvr | .readFrame | .readFast | .readDual | .readQuad | .readQuadIo =>
    { cmd := bs.take n, tx := none, rxn := some 1 }
  | .wrsr | .wrvr | .pp | .ppQuad | .bp => { cmd := bs.take n, tx := send 1, rxn := none }
  | .aaiWp => { cmd := bs.take n, tx := send 2, rxn := none }
  | .wren | .wrdi | .se | .be4k => { cmd := bs.take n, tx := none, rxn := none }

/-- The frame symbols in the table's order, less the two whose row fixes no bit. -/
def frameKinds : List FrameKind :=
  [.rdid, .rdsr, .wrsr, .rdfsr, .wren, .wrdi, .readFrame, .readFast, .readDual, .readQuad, .readQuadIo,
   .pp, .ppQuad, .bp, .aaiWp, .se, .be4k]

/-- The instruction read from a word of the opcode table: `nbits` low bits of `w`, every later bit 0, laid
out byte by byte from the lowest address. The byte is given to the command port's decoder first, the only
decoder the controller has; a byte that names no command is read as a frame under the default opcode bytes,
on the transport's side (log entry 4: the two interfaces share the byte values 0x01 to 0x06). -/
def decodeTableWord (nbits w : Nat) : Option Instr :=
  let bs := bytesLE (w % 2 ^ nbits) 24
  match decodeBytes bs with
  | .ok (i, _) => some i
  | .error _ =>
    match frameKinds.find? (fun k => k.opcode Opcodes.defaults == bs.head?) with
    | none => none
    | some k =>
      match decodeFrame Config.p0 k.tableGeom k (k.tableXfer Config.p0 bs) with
      | .ok i => some i
      | .error _ => none

end Sys2Proof
end

