-- ==== Sys2Proof/Machine/State.lean ====
section
/-!
DEFINITION. The state of one controller instance as plain data (10_state.md): the device record `dev`, the
sixteen sequencer registers `q`, the response record `rsp`, the buffer of the running WRITE, the event
history; beside them the configuration in force (fixed, written by no rule) and the MODEL's own record `env`
of what the three ports and the clock will deliver. Also the fault and refusal names and the reset state.

Every register holds a value at reset. The spec says `dev.identified = 0`, `q.FSM = S_IDLE` and "no value" for
every other register (rule R50); the values named here for those are DESIGN CHOICE (log entry 3, unsafe).
-/

namespace Sys2Proof.Machine

open Sys2Proof

/-! ## Enumerated registers -/

/-- The status codes (60_exceptions.md rule R301). -/
inductive Status where
  | ok | invalidArgument | unsupported | notFound | noDevice | writeProtected | locked | timeout
  | transportError | modeNotConfirmed | unsupportedQuadVendor
  deriving DecidableEq, Repr, Inhabited

/-- The rest states: the closed enumeration `q.FSM` holds (46_sequencer.md rule R276). -/
inductive FsmState where
  | idle
  | idRdid
  | qnRd1 | qnRdsr | qnWren | qnWr | qnRd2
  | rdWin | rdXfer
  | lqRdsr
  | wrWren | wrProg
  | bwWren | bwProg | bwWrdi
  | erWren | erErase | erWrdi
  | lkRdsr | lkWren | lkWrsr
  | ulRdsr | ulWren | ulWrsr
  | ilRdsr
  | plRdsr | plRdfsr
  deriving DecidableEq, Repr, Inhabited

/-- The call-site labels: the closed enumeration `q.RET` holds (46_sequencer.md rule R276). -/
inductive PollLabel where
  | qnPoll | wrPoll | bwPoll | erPoll
  deriving DecidableEq, Repr, Inhabited

/-- The symbol of the selected read opcode (41_identification.md rules R155, R157). -/
inductive ReadOpcode where
  | read | readFast | readDual | readQuad | readQuadIo
  deriving DecidableEq, Repr, Inhabited

/-- The symbol of the selected program opcode (41_identification.md rule R156). -/
inductive ProgramOpcode where
  | pp | ppQuad
  deriving DecidableEq, Repr, Inhabited

/-- The symbol of the selected erase opcode (41_identification.md rule R160). -/
inductive EraseOpcode where
  | se | be4k
  deriving DecidableEq, Repr, Inhabited

/-- `dev.prog_variant` (10_state.md rule R33). -/
inductive ProgVariant where
  | page | byte
  deriving DecidableEq, Repr, Inhabited

/-- `dev.prot_variant` (10_state.md rule R33). -/
inductive ProtVariant where
  | bp | none
  deriving DecidableEq, Repr, Inhabited

/-! ## The records -/

/-- The device record `dev` (10_state.md rule R25). The three opcode registers hold the SYMBOL selected, which
is what the rules read (30_encoding.md rule R105); the byte of a symbol is read off the configuration
(`State.readOpcodeByte` and its two neighbours in Ops.lean). DEDUCED (log entry 5, safe). -/
structure Dev where
  identified : Bool
  desc : Nat
  readOpcode : ReadOpcode
  programOpcode : ProgramOpcode
  eraseOpcode : EraseOpcode
  addrWidth : BitVec 4
  readDummy : Byte
  readMode : RxMode
  writeMode : TxMode
  pageSize : Word64
  sectorSize : Word64
  eraseSize : Word64
  capacity : Word64
  progVariant : ProgVariant
  protVariant : ProtVariant
  useFsr : Bool
  window : Bool
  cmdbuf : List Byte
  deriving DecidableEq, Repr, Inhabited

/-- The sequencer registers `x[0..15]` with the widths of 10_state.md rule R26. The clock's samples and
the timeouts are naturals; one that does not fit `q.T0` or `q.TMO` leaves a free value there (log entry 7). -/
structure Seq where
  /-- `x[0]`, `q.OP`. -/
  op : Byte
  /-- `x[1]`, `q.OFF`. -/
  off : Word64
  /-- `x[2]`, `q.LEN`. -/
  len : Word64
  /-- `x[3]`, `q.CUR`. -/
  cur : Word64
  /-- `x[4]`, `q.DONE`. -/
  doneBytes : Word64
  /-- `x[5]`, `q.CHUNK`. -/
  chunk : Word64
  /-- `x[6]`, `q.T0`. -/
  t0 : Word64
  /-- `x[7]`, `q.TMO`. -/
  tmo : Word64
  /-- `x[8]`, `q.SR_OLD`. -/
  srOld : Byte
  /-- `x[9]`, `q.SR_NEW`. -/
  srNew : Byte
  /-- `x[10]`, `q.REG`. -/
  reg : Byte
  /-- `x[11]`, `q.ERR`. -/
  err : Status
  /-- `x[12]`, `q.RET`, the link register. -/
  ret : PollLabel
  /-- `x[13]`, `q.FSM`, the program counter. -/
  fsm : FsmState
  /-- `x[14]`, `q.IDBUF`. -/
  idbuf : List Byte
  /-- `x[15]`, `q.CAUSE`. -/
  cause : Cause
  deriving DecidableEq, Repr, Inhabited

/-- The response record `rsp` (10_state.md rule R29). -/
structure Rsp where
  status : Status
  count : Word64
  failOff : Word64
  failLen : Word64
  cause : Cause
  totalSize : Word64
  eraseUnitSize : Word64
  programUnitSize : Word64
  rbuf : List Byte
  deriving DecidableEq, Repr, Inhabited

/-! ## The environment's side -/

/-- A byte memory: pairs of address and byte, in one canonical form (`Memory.wf`). An unlisted address reads
as 0xFF, the erased byte (95_test_vectors.md section 4: the array starts all 0xFF). -/
abbrev Memory := List Host.Cell

/-- The well-behaved chip `WB` of 95_test_vectors.md section 5: the spec's own test double. -/
structure Chip where
  desc : ChipDescriptor
  mem : Memory
  sr : Byte
  vr : Byte
  wel : Bool
  deriving DecidableEq, Repr, Inhabited

/-- What stands behind the transport port: the unconstrained oracle (20_memory.md rule R64), or the chip `WB`. -/
inductive Transport where
  | oracle
  | wellBehaved (chip : Chip)
  deriving DecidableEq, Repr, Inhabited

/-- The MODEL's own record of the inputs a step consumes (46_sequencer.md rule R278), as plain data: what the
host will present, what the transport, the clock, the lock collaborator and the window will answer, each a
list consumed from its head, and a count of how many of each were consumed. An exhausted list is continued by
the free values of Config.lean at that count (log entry 2). -/
structure Env where
  /-- The records the host presents, the one at the port first (30_encoding.md rule R90). -/
  port : List CommandRecord
  /-- A reset arrives before the next step (70_reset_and_hazards.md rule R343). -/
  resetLine : Bool
  transport : Transport
  /-- Answers of the transport, one for each exchange to come. -/
  answers : List Answer
  /-- Clock samples to come, naturals; a sample smaller than the last one reads as the last one. -/
  samples : List Nat
  lastSample : Nat
  /-- Answers of the lock collaborator under `LOCK_QUERY = EXTERNAL`. -/
  lockAnswers : List (Option Bool)
  /-- The bytes of the window copies to come. -/
  windowCopies : List (List Byte)
  nXfer : Nat
  nClock : Nat
  nLock : Nat
  nWindow : Nat
  nFailedRead : Nat
  deriving DecidableEq, Repr, Inhabited

/-- The state of the controller, with its configuration and its environment. -/
structure State where
  /-- The configuration in force (00_scope.md rule R6); no rule writes it. -/
  cfg : Config
  dev : Dev
  q : Seq
  rsp : Rsp
  /-- `wbuf`, held with the record for the life of a WRITE (46_sequencer.md rule R279). -/
  wbuf : List Byte
  /-- The event history, oldest first (10_state.md rule R40). -/
  hist : List Event
  env : Env
  deriving DecidableEq, Repr, Inhabited

/-! ## Stops -/

/-- Why the machine stops with a fault: reached from no state the invariant of Safety.lean admits. -/
inductive Fault where
  /-- Raised by `step` in a state of the quad negotiation whose vendor byte has no entry in
  `QUAD_VENDOR_TABLE`: no rule enters such a state (46_sequencer.md rule R282). Safe. -/
  | noQuadProcedure
  deriving DecidableEq, Repr

/-- Why the model gives no meaning. -/
inductive Refusal where
  /-- Raised by an arm of `exec` whose instruction has no meaning yet; no arm does. Safe. -/
  | notModelled (mnemonic : String)
  /-- Raised by `step` on a configuration that breaks a constraint of 00_scope.md rule R7: "a model refuses a
  configuration that breaks one". Safe. -/
  | badConfiguration
  /-- Raised by `step` on a WRITE record whose buffer has not `len` bytes: no such record exists
  (30_encoding.md rule R91; 92_eei_decisions.md D41: "the mismatch has no meaning"). Safe. -/
  | malformedRecord
  deriving DecidableEq, Repr

/-! ## Reset -/

/-- `dev` at reset: `dev.identified = 0` (10_state.md rule R51). The rest is DESIGN CHOICE (log entry 3, unsafe), the
spec giving it no value: the symbols READ, PP and SE, the modes SLOW and STD, the variants PAGE and NONE, every number and
flag zero, no frame in `dev.cmdbuf`. -/
def Dev.reset : Dev :=
  { identified := false, desc := 0, readOpcode := .read, programOpcode := .pp, eraseOpcode := .se,
    addrWidth := 0, readDummy := 0, readMode := .slow, writeMode := .std, pageSize := 0, sectorSize := 0,
    eraseSize := 0, capacity := 0, progVariant := .page, protVariant := .none, useFsr := false,
    window := false, cmdbuf := [] }

/-- The sequencer registers at reset: `q.FSM = S_IDLE` (10_state.md rule R51). The rest is DESIGN CHOICE (log entry 3,
unsafe): `q.ERR` holds OK, `q.RET` holds S_QN_POLL, `q.IDBUF` holds `ID_MAX_LEN` zero bytes, `q.CAUSE` holds the transport's
cause number 0, every number is zero. -/
def Seq.reset (c : Config) : Seq :=
  { op := 0, off := 0, len := 0, cur := 0, doneBytes := 0, chunk := 0, t0 := 0, tmo := 0, srOld := 0,
    srNew := 0, reg := 0, err := .ok, ret := .qnPoll, fsm := .idle, idbuf := List.replicate c.idMaxLen 0,
    cause := .transport 0 }

/-- `rsp` at reset: no value in the spec (10_state.md rule R51). DESIGN CHOICE (log entry 3, unsafe): status OK, the
transport's cause number 0, every number zero, no bytes read. -/
def Rsp.reset : Rsp :=
  { status := .ok, count := 0, failOff := 0, failLen := 0, cause := .transport 0, totalSize := 0,
    eraseUnitSize := 0, programUnitSize := 0, rbuf := [] }

/-- An environment that presents nothing and whose every input is a free value. -/
def Env.silent : Env :=
  { port := [], resetLine := false, transport := .oracle, answers := [], samples := [], lastSample := 0,
    lockAnswers := [], windowCopies := [], nXfer := 0, nClock := 0, nLock := 0, nWindow := 0,
    nFailedRead := 0 }

/-- The machine right after reset under a configuration and in an environment (10_state.md rules R50, R51;
70_reset_and_hazards.md rule R340): the event history is empty. -/
def State.resetWith (c : Config) (e : Env) : State :=
  { cfg := c, dev := Dev.reset, q := Seq.reset c, rsp := Rsp.reset, wbuf := [], hist := [], env := e }

/-- The machine right after reset, under the spec's default configuration P0 (DESIGN CHOICE, log entry 1) with
nothing presented at any port. -/
def State.reset : State := State.resetWith Config.p0 Env.silent

end Sys2Proof.Machine
end

