-- ==== Sys2Proof/Machine/Flags.lean ====
section
/-!
DEFINITION. The fields of the chip's register bytes as the controller interprets them (10_state.md rules R31,
R32; 30_encoding.md rules R107, R108), and the protection field's encoding of a suffix
(44_protection_codec.md rules R230 to R234). The controller has no condition codes (10_state.md rule R30).
-/

namespace Sys2Proof.Machine

open Sys2Proof

/-- `(sr & SR_WIP) = 0`: the busy bit is clear (42_readiness_poller.md rule R183). -/
def srReady (c : Config) (sr : Byte) : Bool := sr &&& c.srWip == 0

/-- `(fsr & FSR_READY) != 0`: the flag status register indicates ready (42_readiness_poller.md rule R183). -/
def fsrIsReady (c : Config) (fsr : Byte) : Bool := fsr &&& c.fsrReady != 0

/-- `bp`, the value of the three protection bits (44_protection_codec.md rule R231). -/
def protField (c : Config) (sr : Byte) : Nat := ((sr &&& c.srBpMask) >>> c.srBpShift).toNat

/-- The status byte `sr` with the protection field `bp`, every other bit as it was (30_encoding.md rule R107). -/
def withProtField (c : Config) (sr : Byte) (bp : Nat) : Byte :=
  (sr &&& ~~~c.srBpMask) ||| (BitVec.ofNat 8 bp <<< c.srBpShift)

/-- `LockLen(sr)`: the length of the protected suffix of a device of `cap` bytes (44_protection_codec.md rule
R232). -/
def lockLen (c : Config) (cap : Nat) (sr : Byte) : Nat :=
  if protField c sr = 0 then 0 else cap >>> (7 - protField c sr)

/-- `LockOff(sr)`: where the protected suffix starts (44_protection_codec.md rule R232). -/
def lockOff (c : Config) (cap : Nat) (sr : Byte) : Nat := cap - lockLen c cap sr

/-- `IsLockedSr(sr, off, n)`: `[off, off + n)` is contained in the protected suffix (44_protection_codec.md rule
R234). -/
def isLockedSr (c : Config) (cap : Nat) (sr : Byte) (off n : Nat) : Bool :=
  decide (lockOff c cap sr ≤ off) && decide (off + n ≤ lockOff c cap sr + lockLen c cap sr)

/-- `(reg & v.bit) != 0`: the vendor's enable bit is set (45_quad_negotiator.md rule R262). -/
def quadBitSet (v : QuadProc) (reg : Byte) : Bool := reg &&& v.bit != 0

end Sys2Proof.Machine
end

