-- ==== Sys2Proof/Machine/Memory.lean ====
section
/-!
DEFINITION. The named operations over a byte memory in canonical form: addresses strictly rising, and no entry
equal to the erased byte, which every unlisted address reads as. Only the chip `WB` holds one: the controller
has no memory of its own (20_memory.md, opening; rule R60).
-/

namespace Sys2Proof.Machine

open Sys2Proof

/-- What an unlisted address reads as: the erased byte, all ones (00_scope.md rule R16, *sector erase*;
95_test_vectors.md section 4). -/
def erasedByte : Byte := 0xFF

/-- The canonical form. -/
abbrev Memory.wf (m : Memory) : Prop :=
  m.Pairwise (fun a b => a.1 < b.1) ∧ ∀ cell ∈ m, cell.2 ≠ erasedByte

/-- The byte at address `a`. -/
def Memory.read : Memory → Nat → Byte
  | [], _ => erasedByte
  | cell :: m, a => if cell.1 = a then cell.2 else Memory.read m a

/-- The memory with the cell `(a, b)` in front, unless `b` is what an unlisted address reads as. -/
def Memory.consByte (a : Nat) (b : Byte) (m : Memory) : Memory := if b = erasedByte then m else (a, b) :: m

/-- The memory with byte `b` at address `a`. -/
def Memory.write : Memory → Nat → Byte → Memory
  | [], a, b => Memory.consByte a b []
  | cell :: m, a, b =>
    if a < cell.1 then Memory.consByte a b (cell :: m)
    else if a = cell.1 then Memory.consByte a b m
    else cell :: Memory.write m a b

/-- `n` bytes from address `a`. -/
def Memory.readBytes (m : Memory) (a n : Nat) : List Byte := (List.range n).map (fun i => m.read (a + i))

/-- Every byte of `[lo, lo + n)` erased. -/
def Memory.eraseRange (m : Memory) (lo n : Nat) : Memory :=
  m.filter (fun cell => !(decide (lo ≤ cell.1) && decide (cell.1 < lo + n)))

/-- Programming `data` at address `a`, below the address `limit` only: a program turns 1 bits into 0 bits, so
each byte becomes the bitwise AND of old and new (95_test_vectors.md section 5). -/
def Memory.program (m : Memory) (limit : Nat) : Nat → List Byte → Memory
  | _, [] => m
  | a, b :: data =>
    Memory.program (if a < limit then m.write a (m.read a &&& b) else m) limit (a + 1) data

end Sys2Proof.Machine
end

