-- ==== Sys2Proof/Machine/Chip.lean ====
section
/-!
DEFINITION. The well-behaved chip `WB` of 95_test_vectors.md section 5, the spec's own test double behind the
transport: what it answers to each frame, and what each frame changes in it. No rule of the controller depends on
it; it answers only where a state's `env.transport` says so, and the reset state does not (log entry 8).
-/

namespace Sys2Proof.Machine

open Sys2Proof

/-- The first address `WB` does not program or erase: the start of the protected suffix. -/
def Chip.limit (ch : Chip) (c : Config) : Nat := ch.desc.capacity - lockLen c ch.desc.capacity ch.sr

/-- The identification bytes, padded with 0x00 to `ID_MAX_LEN`. -/
def Chip.idBytes (ch : Chip) (c : Config) : List Byte :=
  (ch.desc.id ++ List.replicate (c.idMaxLen - ch.desc.id.length) 0).take c.idMaxLen

/-- An array read inside the array; `WB` does not say what it answers beyond its last byte. -/
def Chip.readArray (ch : Chip) (a n : Word64) : Option Answer :=
  if a.toNat + n.toNat ≤ ch.desc.capacity then some (.ok (ch.mem.readBytes a.toNat n.toNat)) else none

/-- What `WB` answers to a frame; `none` where its table has no row (a host command; READ_QUAD_IO; an array read
beyond the array), and then the oracle answers. -/
def Chip.answer (ch : Chip) (c : Config) : Instr → Option Answer
  | .identify _ _ => none
  | .read _ _ => none
  | .write _ _ _ => none
  | .erase _ _ => none
  | .lock _ _ => none
  | .unlock _ _ => none
  | .geometry _ _ => none
  | .reprobe _ _ => none
  | .isLocked _ _ => none
  | .rdid => some (.ok (ch.idBytes c))
  | .rdsr => some (.ok [ch.sr])
  | .wrsr _ => some (.ok [])
  | .rdfsr => some (.ok [0x80])
  | .wren => some (.ok [])
  | .wrdi => some (.ok [])
  | .rdvr op => some (.ok [if op = c.opc.rdsr then ch.sr else ch.vr])
  | .wrvr _ _ => some (.ok [])
  | .readFrame a n => ch.readArray a n
  | .readFast a n => ch.readArray a n
  | .readDual a n => ch.readArray a n
  | .readQuad a n => ch.readArray a n
  | .readQuadIo _ _ => none
  | .pp _ _ => some (.ok [])
  | .ppQuad _ _ => some (.ok [])
  | .bp _ _ => some (.ok [])
  | .aaiWp _ _ => some (.ok [])
  | .se _ => some (.ok [])
  | .be4k _ => some (.ok [])

/-- A register write: the status byte with bits 0 and 1 kept 0, and the second byte, when there is one, into the
vendor register; only under the write-enable latch, which it clears. -/
def Chip.writeRegister (ch : Chip) (p : List Byte) : Chip :=
  if ch.wel then
    match p with
    | [] => ch
    | [b] => { ch with sr := b &&& 0xFC, wel := false }
    | b :: v :: _ => { ch with sr := b &&& 0xFC, vr := v, wel := false }
  else ch

/-- A page program frame: the bytes below the protected suffix, under the write-enable latch, which it clears. -/
def Chip.programArray (ch : Chip) (c : Config) (a : Word64) (data : List Byte) : Chip :=
  if ch.wel then { ch with mem := ch.mem.program (ch.limit c) a.toNat data, wel := false } else ch

/-- A byte-mode program frame: as a page program frame, but the latch stays set for the units that follow under the
command's one write-enable. DESIGN CHOICE (log entry 10, unsafe): the table of 95_test_vectors.md section 5 clears the
latch here too, and then program P4 (command 6) and the round trip for byte mode, both stated in the same file, are
false of `WB`; the model follows those two. -/
def Chip.programUnit (ch : Chip) (c : Config) (a : Word64) (data : List Byte) : Chip :=
  if ch.wel then { ch with mem := ch.mem.program (ch.limit c) a.toNat data } else ch

/-- An erase frame: the unit of `unit` bytes containing the address, unless it reaches into the protected suffix. -/
def Chip.eraseUnit (ch : Chip) (c : Config) (a : Word64) (unit : Nat) : Chip :=
  if ch.wel then
    let base := a.toNat - a.toNat % unit
    if base + unit ≤ ch.limit c then { ch with mem := ch.mem.eraseRange base unit, wel := false }
    else { ch with wel := false }
  else ch

/-- What a frame changes in `WB`. -/
def Chip.after (ch : Chip) (c : Config) : Instr → Chip
  | .identify _ _ => ch
  | .read _ _ => ch
  | .write _ _ _ => ch
  | .erase _ _ => ch
  | .lock _ _ => ch
  | .unlock _ _ => ch
  | .geometry _ _ => ch
  | .reprobe _ _ => ch
  | .isLocked _ _ => ch
  | .rdid => ch
  | .rdsr => ch
  | .wrsr p => ch.writeRegister p
  | .rdfsr => ch
  | .wren => { ch with wel := true }
  | .wrdi => { ch with wel := false }
  | .rdvr _ => ch
  | .wrvr _ p => ch.writeRegister p
  | .readFrame _ _ => ch
  | .readFast _ _ => ch
  | .readDual _ _ => ch
  | .readQuad _ _ => ch
  | .readQuadIo _ _ => ch
  | .pp a d => ch.programArray c a d
  | .ppQuad a d => ch.programArray c a d
  | .bp a d => ch.programUnit c a d
  | .aaiWp a d => ch.programUnit c a d
  | .se a => ch.eraseUnit c a ch.desc.sectorSize
  | .be4k a => ch.eraseUnit c a 4096

end Sys2Proof.Machine
end

