-- ==== Sys2Proof/Machine/Ops.lean ====
section
/-!
DEFINITION. The named operations over the state that the instructions share: the register updates; the one
transport exchange; the clock sample, the lock collaborator's answer and the window copy; the common head
`Precheck`; and the nearest thing this controller has to taking an exception, ONE operation: the end of a command
(`State.endWith`; 46_sequencer.md rule R280, 60_exceptions.md rules R310, R311, R328). There is no return
instruction (60_exceptions.md rule R329): the controller is in `S_IDLE` and takes the next command.
-/

namespace Sys2Proof.Machine

open Sys2Proof

/-! ## Codes of the enumerated registers -/

/-- The number of a status (60_exceptions.md rule R301). -/
def Status.code : Status → Byte
  | .ok => 0
  | .invalidArgument => 1
  | .unsupported => 2
  | .notFound => 3
  | .noDevice => 4
  | .writeProtected => 5
  | .locked => 6
  | .timeout => 7
  | .transportError => 8
  | .modeNotConfirmed => 9
  | .unsupportedQuadVendor => 10

/-- The code of a rest state (46_sequencer.md rule R276). -/
def FsmState.code : FsmState → Byte
  | .idle => 0x00
  | .idRdid => 0x10
  | .qnRd1 => 0x18
  | .qnRdsr => 0x19
  | .qnWren => 0x1A
  | .qnWr => 0x1B
  | .qnRd2 => 0x1D
  | .rdWin => 0x20
  | .rdXfer => 0x21
  | .lqRdsr => 0x28
  | .wrWren => 0x30
  | .wrProg => 0x31
  | .bwWren => 0x38
  | .bwProg => 0x39
  | .bwWrdi => 0x3B
  | .erWren => 0x40
  | .erErase => 0x41
  | .erWrdi => 0x43
  | .lkRdsr => 0x50
  | .lkWren => 0x51
  | .lkWrsr => 0x52
  | .ulRdsr => 0x60
  | .ulWren => 0x61
  | .ulWrsr => 0x62
  | .ilRdsr => 0x70
  | .plRdsr => 0xF0
  | .plRdfsr => 0xF1

/-- The code of a call-site label (46_sequencer.md rule R276). -/
def PollLabel.code : PollLabel → Byte
  | .qnPoll => 0x1C
  | .wrPoll => 0x32
  | .bwPoll => 0x3A
  | .erPoll => 0x42

/-- `dev.read_opcode`: the byte of the selected read symbol (30_encoding.md rule R104). -/
def State.readOpcodeByte (s : State) : Byte :=
  match s.dev.readOpcode with
  | .read => s.cfg.opc.read
  | .readFast => s.cfg.opc.readFast
  | .readDual => s.cfg.opc.readDual
  | .readQuad => s.cfg.opc.readQuad
  | .readQuadIo => s.cfg.opc.readQuadIo

/-- `dev.program_opcode`: the byte of the selected program symbol. -/
def State.programOpcodeByte (s : State) : Byte :=
  match s.dev.programOpcode with
  | .pp => s.cfg.opc.pp
  | .ppQuad => s.cfg.opc.ppQuad

/-- `dev.erase_opcode`: the byte of the selected erase symbol. -/
def State.eraseOpcodeByte (s : State) : Byte :=
  match s.dev.eraseOpcode with
  | .se => s.cfg.opc.se
  | .be4k => s.cfg.opc.be4k

/-! ## Register updates -/

/-- `q.FSM <- f`. -/
def State.setFsm (s : State) (f : FsmState) : State := { s with q := { s.q with fsm := f } }

/-- The command record's operands into `q.OP`, `q.OFF`, `q.LEN` (46_sequencer.md rule R279). -/
def State.load (s : State) (code : Byte) (off len : Word64) : State :=
  { s with q := { s.q with op := code, off := off, len := len } }

/-- `wbuf` is held for the life of a WRITE (46_sequencer.md rule R279). -/
def State.holdBuffer (s : State) (wbuf : List Byte) : State := { s with wbuf := wbuf }

/-- `q.CUR` and `q.DONE`. -/
def State.setCursor (s : State) (cur doneBytes : Word64) : State :=
  { s with q := { s.q with cur := cur, doneBytes := doneBytes } }

/-- `q.CHUNK <- n`. -/
def State.setChunk (s : State) (n : Word64) : State := { s with q := { s.q with chunk := n } }

/-- `q.T0`, `q.TMO` and `q.RET`, the poller's call (46_sequencer.md rule R281). -/
def State.setPoll (s : State) (t0 tmo : Word64) (l : PollLabel) : State :=
  { s with q := { s.q with t0 := t0, tmo := tmo, ret := l } }

/-- `q.SR_OLD <- b`. -/
def State.setSrOld (s : State) (b : Byte) : State := { s with q := { s.q with srOld := b } }

/-- `q.SR_NEW <- b`. -/
def State.setSrNew (s : State) (b : Byte) : State := { s with q := { s.q with srNew := b } }

/-- `q.REG <- b`. -/
def State.setReg (s : State) (b : Byte) : State := { s with q := { s.q with reg := b } }

/-- `q.ERR <- e`. -/
def State.setErr (s : State) (e : Status) : State := { s with q := { s.q with err := e } }

/-- `q.IDBUF <- rx`. -/
def State.setIdbuf (s : State) (rx : List Byte) : State := { s with q := { s.q with idbuf := rx } }

/-- `q.CAUSE <- c`. -/
def State.setCause (s : State) (c : Cause) : State := { s with q := { s.q with cause := c } }

/-- The device record. -/
def State.setDev (s : State) (d : Dev) : State := { s with dev := d }

/-- `dev.identified <- b`. -/
def State.setIdentified (s : State) (b : Bool) : State := { s with dev := { s.dev with identified := b } }

/-- `rsp.fail_off` and `rsp.fail_len`. -/
def State.setFail (s : State) (fo fl : Word64) : State :=
  { s with rsp := { s.rsp with failOff := fo, failLen := fl } }

/-- `rsp.rbuf <- rx`. -/
def State.setRbuf (s : State) (rx : List Byte) : State := { s with rsp := { s.rsp with rbuf := rx } }

/-- The three geometry fields of `rsp` (41_identification.md rule R172). -/
def State.setGeometry (s : State) (total eraseUnit programUnit : Word64) : State :=
  { s with rsp := { s.rsp with totalSize := total, eraseUnitSize := eraseUnit, programUnitSize := programUnit } }

/-! ## The transport exchange -/

/-- The geometry of the frames in force (30_encoding.md rules R101, R102). -/
def State.geom (s : State) : FrameGeom :=
  { addrWidth := s.dev.addrWidth.toNat, dummyBytes := s.dev.readDummy.toNat / 8 }

/-- A legal answer: at most as many bytes as were asked for, none where none were (20_memory.md rule R62). -/
def clipAnswer (rxn : Option Nat) : Answer → Answer
  | .err c => .err c
  | .ok rx => .ok (rx.take (rxn.getD 0))

/-- Why an exchange that was to receive `n` bytes failed: `Err(cause)`, or a short response with cause `SHORT`
(20_memory.md rule R65; 60_exceptions.md rule R321). -/
def answerFailure (n : Nat) : Answer → Option Cause
  | .err c => some (.transport c)
  | .ok rx => if rx.length < n then some .short else none

/-- The bytes received. -/
def answerBytes : Answer → List Byte
  | .err _ => []
  | .ok rx => rx

/-- The oracle's next answer: the next of the list, or a free value (20_memory.md rule R64). -/
def State.oracleAnswer (s : State) (x : Xfer) : Answer :=
  match s.env.answers with
  | a :: _ => a
  | [] => Config.oracle s.env.nXfer s.hist x

/-- Whether the chip `WB` stands behind the transport and answers the frame `i`. -/
def State.chipAnswer (s : State) (i : Instr) : Option Answer :=
  match s.env.transport with
  | .oracle => none
  | .wellBehaved ch => ch.answer s.cfg i

/-- What the transport answers to the frame `i`, issued as the exchange `x`. -/
def State.answerTo (s : State) (i : Instr) (x : Xfer) : Answer :=
  clipAnswer x.rxn ((s.chipAnswer i).getD (s.oracleAnswer x))

/-- The environment after the frame `i`: the chip has run it, or one answer of the list is used up. -/
def State.envAfter (s : State) (i : Instr) : Env :=
  match s.env.transport with
  | .oracle => { s.env with answers := s.env.answers.tail, nXfer := s.env.nXfer + 1 }
  | .wellBehaved ch =>
    match ch.answer s.cfg i with
    | some _ => { s.env with transport := .wellBehaved (ch.after s.cfg i), nXfer := s.env.nXfer + 1 }
    | none => { s.env with answers := s.env.answers.tail, nXfer := s.env.nXfer + 1 }

/-- One exchange, atomic and exclusive (20_memory.md rules R62, R63): the frame is built in `dev.cmdbuf`
(10_state.md rule R36), the transport answers, the event enters the history (rule R40). -/
def State.transfer (s : State) (i : Instr) (x : Xfer) : Answer × State :=
  (s.answerTo i x,
   { s with
     dev := { s.dev with cmdbuf := x.cmd }
     hist := s.hist ++ [.xfer x (s.answerTo i x)]
     env := s.envAfter i })

/-- Issuing the frame `i`. A host command is no frame, and then nothing is exchanged. -/
def State.exchange (s : State) (i : Instr) : Answer × State :=
  match encodeFrame s.cfg s.geom i with
  | some x => s.transfer i x
  | none => (.ok [], s)

/-- The two columns "on Err" and "on Ok" of 46_sequencer.md section 2 for an exchange that was to receive `n`
bytes: on a failure `q.CAUSE` is written first. -/
def State.resume (s : State) (a : Answer) (n : Nat) (onErr : State → State) (onOk : List Byte → State → State) :
    State :=
  match answerFailure n a with
  | some c => onErr (s.setCause c)
  | none => onOk (answerBytes a) s

/-! ## The other inputs -/

/-- The next raw clock sample. -/
def State.rawSample (s : State) : Nat :=
  match s.env.samples with
  | t :: _ => t
  | [] => Config.clock s.env.nClock

/-- What `Now()` returns: a natural, never smaller than the last one (60_exceptions.md rule R325). -/
def State.now (s : State) : Nat := max s.env.lastSample s.rawSample

/-- The natural `n` in a 64-bit register (10_state.md rules R25, R26); `free` where it does not fit. DESIGN CHOICE (log
entries 6, 7). -/
def keptWord (free : Word64) (n : Nat) : Word64 := if n < 2 ^ 64 then BitVec.ofNat 64 n else free

/-- The next sample as `q.T0` keeps it. -/
def State.entryWord (s : State) : Word64 := keptWord (Config.wideSample s.env.nClock s.now) s.now

/-- The timeout `t` as `q.TMO` keeps it. -/
def State.timeoutWord (s : State) (t : Nat) : Word64 := keptWord (Config.wideTimeout s.env.nClock t) t

/-- The state after `Now()`: the sample enters the history (10_state.md rule R40). -/
def State.afterSample (s : State) : State :=
  { s with
    hist := s.hist ++ [.clock s.now]
    env := { s.env with samples := s.env.samples.tail, lastSample := s.now, nClock := s.env.nClock + 1 } }

/-- The lock collaborator's answer about `[q.OFF, q.OFF + q.LEN)` (44_protection_codec.md rule R236). -/
def State.externalLock (s : State) : Option Bool :=
  match s.env.lockAnswers with
  | a :: _ => a
  | [] => Config.lockAnswer s.env.nLock s.q.off s.q.len

/-- The state after the collaborator was asked. -/
def State.afterLockAnswer (s : State) : State :=
  { s with env := { s.env with lockAnswers := s.env.lockAnswers.tail, nLock := s.env.nLock + 1 } }

/-- `window[a .. a + n)` (20_memory.md rule R70): the listed bytes of the next copy, continued by free values. -/
def State.windowBytes (s : State) (a n : Nat) : List Byte :=
  let given := (s.env.windowCopies.headD []).take n
  given ++ (List.range (n - given.length)).map
    (fun i => Config.windowByte s.env.nWindow (a + given.length + i))

/-- The state after a window copy. -/
def State.afterWindow (s : State) : State :=
  { s with env := { s.env with windowCopies := s.env.windowCopies.tail, nWindow := s.env.nWindow + 1 } }

/-- After a failed READ the content of `rsp.rbuf` is unspecified (43_program_erase_read.md rule R191): a free
value. -/
def State.spoilRbuf (s : State) : State :=
  { s with
    rsp := { s.rsp with rbuf := Config.failedReadBuf s.env.nFailedRead }
    env := { s.env with nFailedRead := s.env.nFailedRead + 1 } }

/-! ## The end of a command -/

/-- `End(status, count)` with the failure fields `fo`, `fl` (46_sequencer.md rule R280; 60_exceptions.md rules
R310, R311): `rsp.status` and `rsp.count`; on an error `rsp.fail_off` and `rsp.fail_len`; on `TransportError`
`rsp.cause <- q.CAUSE`; then `q.FSM <- S_IDLE`. Every error of every command ends here. -/
def State.endWith (s : State) (st : Status) (count fo fl : Word64) : State :=
  { s with
    rsp := { s.rsp with
      status := st
      count := count
      failOff := if st = .ok then s.rsp.failOff else fo
      failLen := if st = .ok then s.rsp.failLen else fl
      cause := if st = .transportError then s.q.cause else s.rsp.cause }
    q := { s.q with fsm := .idle } }

/-- The successful end. -/
def State.endOk (s : State) (count : Word64) : State := s.endWith .ok count s.rsp.failOff s.rsp.failLen

/-- The end outside the loops: count 0, and the record's offset and length (60_exceptions.md rule R311, first row). -/
def State.endOutside (s : State) (st : Status) : State := s.endWith st 0 s.q.off s.q.len

/-- The end in a chunk of the page loop: the bytes completed, and the chunk (60_exceptions.md rule R311, second
row). -/
def State.endInChunk (s : State) (st : Status) : State := s.endWith st s.q.doneBytes s.q.cur s.q.chunk

/-- `Latch(E, fo, fl)` (46_sequencer.md rule R285): the error awaits the closing write-disable. -/
def State.latch (s : State) (e : Status) (fo fl : Word64) : State := (s.setErr e).setFail fo fl

/-- The end of a command whose error was latched: the failure fields stay as the latch wrote them
(46_sequencer.md rule R280). -/
def State.endLatched (s : State) : State :=
  s.endWith s.q.err s.q.doneBytes s.rsp.failOff s.rsp.failLen

/-! ## The common head -/

/-- `Precheck()` (60_exceptions.md rules R312 to R315): the status it ends the command with, `.ok` for the
zero-length success, or `none` when the command goes on. -/
def State.precheck (s : State) : Option Status :=
  if s.dev.identified = false then some .noDevice
  else if s.q.len = 0 then some .ok
  else if s.q.off.toNat > s.dev.capacity.toNat
      || s.q.len.toNat > s.dev.capacity.toNat - s.q.off.toNat then some .invalidArgument
  else none

/-- What follows `Precheck()`, or the end it makes. -/
def State.withPrecheck (s : State) (k : State → State) : State :=
  match s.precheck with
  | some st => s.endOutside st
  | none => k s

/-- A record is taken in `S_IDLE` only; elsewhere it has no effect (30_encoding.md rule R90;
93_implementation_defined.md U16). -/
def State.whenIdle (s : State) (k : State → State) : State := if s.q.fsm = .idle then k s else s

/-- The record at the port is taken (30_encoding.md rule R90). -/
def State.takeRecord (s : State) : State := { s with env := { s.env with port := s.env.port.tail } }

/-- A record whose code names no command is accepted and answered `Unsupported` at once, without exchange and
without a change of `dev` (30_encoding.md rule R96; 46_sequencer.md rule R279). -/
def State.acceptReserved (s : State) (r : CommandRecord) : State :=
  (s.load r.code r.offset r.len).endOutside .unsupported

/-- Reset, which may arrive between two steps (70_reset_and_hazards.md rules R340, R341, R343): the controller
is as after reset, no exchange is issued, no response is written, and the environment (the chip among it) is
not touched. -/
def State.doReset (s : State) : State := State.resetWith s.cfg { s.env with resetLine := false }

end Sys2Proof.Machine
end

