-- ==== Sys2Proof/Machine/Operands.lean ====
section
/-!
DEFINITION. How the operands of the loops' frames are formed: the page chunk and the byte-mode unit
(43_program_erase_read.md rules R195, R203), the slice of the write buffer they carry, the cursor's advance; and the
two shift searches of the protection codec (44_protection_codec.md rules R242, R247).
-/

namespace Sys2Proof.Machine

open Sys2Proof

/-- `q.LEN - q.DONE`, the bytes left. -/
def State.bytesLeft (s : State) : Nat := s.q.len.toNat - s.q.doneBytes.toNat

/-- `dev.page_size - (q.CUR mod dev.page_size)` (43_program_erase_read.md rule R195). -/
def State.toBoundary (s : State) : Nat := s.dev.pageSize.toNat - s.q.cur.toNat % s.dev.pageSize.toNat

/-- `min(v, limit)`, where `None` is ignored (00_scope.md rule R11). -/
def minLimit (v : Nat) : Option Nat → Nat
  | none => v
  | some m => min v m

/-- The length of the next page chunk (43_program_erase_read.md rule R195). -/
def State.pageChunk (s : State) : Word64 :=
  BitVec.ofNat 64 (minLimit (min s.bytesLeft s.toBoundary) s.cfg.maxWrite)

/-- The length of the next unit of byte mode: one byte at an odd address or when one is left, else a pair
(43_program_erase_read.md rule R203). -/
def State.unitChunk (s : State) : Word64 :=
  if s.q.cur.toNat % 2 = 1 ∨ s.bytesLeft = 1 then 1 else 2

/-- `wbuf[q.DONE .. q.DONE + q.CHUNK)`. -/
def State.chunkData (s : State) : List Byte := (s.wbuf.drop s.q.doneBytes.toNat).take s.q.chunk.toNat

/-- `q.CUR` and `q.DONE` advanced by `n`. -/
def State.advance (s : State) (n : Word64) : State := s.setCursor (s.q.cur + n) (s.q.doneBytes + n)

/-- The least `p` from `start` on, among `fuel` candidates, that satisfies `f`; `start + fuel` if none does. -/
def leastFrom (f : Nat → Bool) (start : Nat) : Nat → Nat
  | 0 => start
  | fuel + 1 => if f start then start else leastFrom f (start + 1) fuel

/-- The greatest `p` up to `n` that satisfies `f`; 0 if none above 0 does. -/
def greatestUpTo (f : Nat → Bool) : Nat → Nat
  | 0 => 0
  | n + 1 => if f (n + 1) then n + 1 else greatestUpTo f n

/-- The least `p` with `cap >> p <= eff` (44_protection_codec.md rule R242). A 64-bit capacity shifts to 0 within
64 places, so the search is over before its fuel is. -/
def leastShift (cap eff : Nat) : Nat := leastFrom (fun p => decide (cap >>> p ≤ eff)) 0 64

/-- The greatest `p` with `cap >> p >= rem`, for `1 <= rem <= cap` (44_protection_codec.md rule R245). -/
def greatestShift (cap rem : Nat) : Nat := greatestUpTo (fun p => decide (rem ≤ cap >>> p)) 64

end Sys2Proof.Machine
end

