-- ==== Sys2Proof/Machine/Poller.lean ====
section
/-!
DEFINITION. The readiness poller, the controller's one subroutine (42_readiness_poller.md; 46_sequencer.md rules R281,
R288): its call, its decision, its return `Cont(q.RET)` into the four callers and its failure `Fail(q.RET, E)`
(46_sequencer.md rules R282, R284, R285, R286).
-/

namespace Sys2Proof.Machine

open Sys2Proof

/-- `Call(T, L)` (46_sequencer.md rule R281): the timeout, the entry sample, the label, the poller's first state. -/
def State.callPoller (s : State) (t : Nat) (l : PollLabel) : State :=
  (s.afterSample.setPoll s.entryWord (s.timeoutWord t) l).setFsm .plRdsr

/-- `Cont(S_WR_POLL)` (46_sequencer.md rule R284): the chunk is counted; the next one, or the end. -/
def State.contPage (s : State) : State :=
  let t := s.advance s.q.chunk
  if t.q.doneBytes.toNat < t.q.len.toNat then (t.setChunk t.pageChunk).setFsm .wrWren
  else t.endOk t.q.doneBytes

/-- `Cont(S_BW_POLL)` (46_sequencer.md rule R285): the unit is counted; the next one, or the closing write-disable. -/
def State.contUnit (s : State) : State :=
  let t := s.advance s.q.chunk
  if t.q.doneBytes.toNat < t.q.len.toNat then (t.setChunk t.unitChunk).setFsm .bwProg
  else t.setFsm .bwWrdi

/-- `Cont(S_ER_POLL)` (46_sequencer.md rule R286): the unit is counted; the next one, or the closing write-disable. -/
def State.contErase (s : State) : State :=
  let t := s.advance s.dev.eraseSize
  if t.q.doneBytes.toNat < t.q.len.toNat then t.setFsm .erWren else t.setFsm .erWrdi

/-- `Cont(q.RET)`: the poller returns into the caller's code after the call site. -/
def State.cont (s : State) : State :=
  match s.q.ret with
  | .qnPoll => s.setFsm .qnRd2
  | .wrPoll => s.contPage
  | .bwPoll => s.contUnit
  | .erPoll => s.contErase

/-- `Fail(q.RET, E)`: the caller's error path. The negotiation and the page loop end the command; byte mode and
erase latch the error and close with the write-disable. -/
def State.failPoll (s : State) (e : Status) : State :=
  match s.q.ret with
  | .qnPoll => s.endOutside e
  | .wrPoll => s.endInChunk e
  | .bwPoll => (s.latch e s.q.cur s.q.chunk).setFsm .bwWrdi
  | .erPoll => (s.latch e s.q.cur s.q.chunk).setFsm .erWrdi

/-- `t - q.T0`, of naturals (46_sequencer.md rule R288). -/
def State.elapsed (s : State) : Nat := s.now - s.q.t0.toNat

/-- `Decide(ready)` (46_sequencer.md rule R288): success is tested before the deadline (42_readiness_poller.md rule
R184); one clock sample for a failed iteration. -/
def State.decideReady (s : State) (ready : Bool) : State :=
  if ready then s.cont
  else if s.q.tmo.toNat ≤ s.elapsed then s.afterSample.failPoll .timeout
  else s.afterSample.setFsm .plRdsr

/-- `S_PL_RDSR` on Ok (46_sequencer.md rule R288). -/
def State.pollStatus (rx : List Byte) (s : State) : State :=
  let t := s.setSrOld (rx.headD 0)
  if t.dev.useFsr then t.setFsm .plRdfsr else t.decideReady (srReady t.cfg t.q.srOld)

/-- `S_PL_RDFSR` on Ok (46_sequencer.md rule R288). -/
def State.pollFlagStatus (rx : List Byte) (s : State) : State :=
  let t := s.setReg (rx.headD 0)
  t.decideReady (srReady t.cfg t.q.srOld && fsrIsReady t.cfg t.q.reg)

end Sys2Proof.Machine
end

