-- ==== Sys2Proof/Machine/Identify.lean ====
section
/-!
DEFINITION. Device identification (41_identification.md): the scan of the chip table, the derivation of `dev`, the
quad negotiation's states (45_quad_negotiator.md), and the host commands IDENTIFY, GEOMETRY, REPROBE.
-/

namespace Sys2Proof.Machine

open Sys2Proof

/-! ## Matching and derivation -/

/-- A descriptor matches a response when its configured id-length bytes agree (41_identification.md rule R152). -/
def descriptorMatches (d : ChipDescriptor) (r : List Byte) : Bool :=
  decide (d.idLen ≤ r.length) && r.take d.idLen == d.id.take d.idLen

/-- `FirstMatch(r)`: the first matching entry of the table and its index (41_identification.md rule R153). -/
def firstMatchFrom (i : Nat) : List ChipDescriptor → List Byte → Option (Nat × ChipDescriptor)
  | [], _ => none
  | d :: ds, r => if descriptorMatches d r then some (i, d) else firstMatchFrom (i + 1) ds r

/-- The read opcode's policy, tried in this order (41_identification.md rule R155). -/
def selectRead (m : RxMode) (f : ChipFlags) : ReadOpcode :=
  if m = .slow then .read
  else if m = .quad ∧ f.rdQuad = true then .readQuad
  else if m = .dual ∧ f.rdDual = true then .readDual
  else .readFast

/-- The program opcode's policy (41_identification.md rule R156). -/
def selectProgram (m : TxMode) (f : ChipFlags) : ProgramOpcode :=
  if m = .quad ∧ f.wrQuad = true then .ppQuad else .pp

/-- The dummy cycles of the selected symbol (41_identification.md rule R157). -/
def dummyCycles : ReadOpcode → Byte
  | .readQuadIo => 16
  | .read => 0
  | .readFast => 8
  | .readDual => 8
  | .readQuad => 8

/-- The 16-bit code of two response bytes, most significant first (20_memory.md rule R68). -/
def code16 (hi lo : Byte) : Code16 := hi ++ lo

/-- Whether the page-size quirk fires on the response `r` (41_identification.md rule R158). -/
def pageQuirk (c : Config) (r : List Byte) : Bool :=
  decide (5 ≤ c.idMaxLen)
  && code16 (r.getD 3 0) (r.getD 4 0) == c.pageQuirkExt
  && !(code16 (r.getD 1 0) (r.getD 2 0) == c.pageQuirkExcept.1
       || code16 (r.getD 1 0) (r.getD 2 0) == c.pageQuirkExcept.2)

/-- The effective program-unit size (41_identification.md rule R158). -/
def derivedPageSize (c : Config) (d : ChipDescriptor) (r : List Byte) : Nat :=
  if pageQuirk c r then 2 * d.pageSize else d.pageSize

/-- The effective program-unit size as the 64-bit register `dev.page_size` keeps it: at least 1 (10_state.md rule R25), a
free value where it does not fit. DESIGN CHOICE (log entry 6). -/
def pageWord (p : Nat) : Word64 := keptWord (if Config.widePage p = 0 then 1 else Config.widePage p) p

/-- Whether the 4 KiB erase applies (41_identification.md rule R160). -/
def use4kErase (c : Config) (d : ChipDescriptor) : Bool := d.flags.sect4k && c.use4k

/-- `Derive(i, r)`: every derived field of `dev` from the matched descriptor (41_identification.md rules R154 to R163).
`dev.identified` and `dev.cmdbuf` are not derived. -/
def deriveDev (c : Config) (i : Nat) (d : ChipDescriptor) (r : List Byte) (old : Dev) : Dev :=
  { identified := old.identified
    desc := i
    readOpcode := selectRead c.rxMode d.flags
    programOpcode := selectProgram c.txMode d.flags
    eraseOpcode := if use4kErase c d then .be4k else .se
    addrWidth := BitVec.ofNat 4 (c.addrWidth d)
    readDummy := dummyCycles (selectRead c.rxMode d.flags)
    readMode := c.rxMode
    writeMode := c.txMode
    pageSize := pageWord (derivedPageSize c d r)
    sectorSize := BitVec.ofNat 64 d.sectorSize
    eraseSize := if use4kErase c d then 4096 else BitVec.ofNat 64 d.sectorSize
    capacity := BitVec.ofNat 64 d.capacity
    progVariant := if d.flags.byteProg then .byte else .page
    protVariant := if d.flags.hasBp then .bp else .none
    useFsr := d.flags.useFsr
    window := c.hasWindow
    cmdbuf := old.cmdbuf }

/-- `QuadSelected()` (41_identification.md rule R164). -/
def Dev.quadSelected (d : Dev) : Bool := d.readOpcode == .readQuad || d.programOpcode == .ppQuad

/-- `QUAD_VENDOR_TABLE[q.IDBUF[0]]`, the procedure of the running negotiation (46_sequencer.md rule R282). -/
def State.quadProc (s : State) : Option QuadProc :=
  match s.q.idbuf with
  | [] => none
  | vid :: _ => s.cfg.vendorProc vid

/-! ## The states of IDENTIFY -/

/-- IDENTIFY succeeds: the flag is the last write (41_identification.md rule R165). -/
def State.identifyDone (s : State) : State := (s.setIdentified true).endOk 0

/-- `S_ID_RDID` on Ok, with a match (46_sequencer.md rule R282). -/
def State.identifyMatched (s : State) (i : Nat) (d : ChipDescriptor) : State :=
  let t := s.setDev (deriveDev s.cfg i d s.q.idbuf s.dev)
  if t.dev.quadSelected then
    match t.quadProc with
    | none => t.endOutside .unsupportedQuadVendor
    | some _ => t.setFsm .qnRd1
  else t.identifyDone

/-- `S_ID_RDID` on Ok (46_sequencer.md rule R282). -/
def State.identifyWith (s : State) (rx : List Byte) : State :=
  let t := s.setIdbuf rx
  match firstMatchFrom 0 t.cfg.chipTable rx with
  | none => t.endOutside .notFound
  | some (i, d) => t.identifyMatched i d

/-- `S_ID_RDID` on any answer: a short response is `NotFound` (40_register_access.md rule R131; 46_sequencer.md rule
R282). -/
def State.identifyAnswered (s : State) (a : Answer) : State :=
  match a with
  | .err c => (s.setCause (.transport c)).endOutside .transportError
  | .ok rx => if rx.length < s.cfg.idMaxLen then s.endOutside .notFound else s.identifyWith rx

/-- `S_QN_RD1` on Ok (46_sequencer.md rule R282). -/
def State.quadFirstRead (v : QuadProc) (rx : List Byte) (s : State) : State :=
  let t := s.setReg (rx.headD 0)
  match v.payload with
  | .srThenReg => t.setFsm .qnRdsr
  | .regOnly => t.setFsm .qnWren

/-- `S_QN_RDSR` on Ok (46_sequencer.md rule R282). -/
def State.quadStatusRead (rx : List Byte) (s : State) : State := (s.setSrOld (rx.headD 0)).setFsm .qnWren

/-- `S_QN_RD2` on Ok: the read-back decides (45_quad_negotiator.md rule R266). -/
def State.quadReadBack (v : QuadProc) (rx : List Byte) (s : State) : State :=
  let t := s.setReg (rx.headD 0)
  if quadBitSet v t.q.reg then t.identifyDone else t.endOutside .modeNotConfirmed

/-- The payload of the negotiation's write (45_quad_negotiator.md rule R264). -/
def State.quadPayload (s : State) (v : QuadProc) : List Byte :=
  match v.payload with
  | .regOnly => [s.q.reg ||| v.bit]
  | .srThenReg => [s.q.srOld, s.q.reg ||| v.bit]

/-! ## The host commands -/

/-- IDENTIFY (41_identification.md rules R150, R166): the acceptance step. -/
def execIdentify (offset len : Word64) (s : State) : Host.Outcome State Fault Refusal :=
  .next (s.whenIdle (fun s =>
    let t := s.load 0x01 offset len
    if t.dev.identified then t.endOk 0 else t.setFsm .idRdid))

/-- GEOMETRY (41_identification.md rule R172). -/
def execGeometry (offset len : Word64) (s : State) : Host.Outcome State Fault Refusal :=
  .next (s.whenIdle (fun s =>
    let t := s.load 0x07 offset len
    if t.dev.identified then (t.setGeometry t.dev.capacity t.dev.eraseSize t.dev.pageSize).endOk 0
    else t.endOutside .noDevice))

/-- REPROBE (41_identification.md rule R170): the flag is cleared and the window released. -/
def execReprobe (offset len : Word64) (s : State) : Host.Outcome State Fault Refusal :=
  .next (s.whenIdle (fun s =>
    let t := s.load 0x08 offset len
    (t.setDev { t.dev with identified := false, window := false }).endOk 0))

end Sys2Proof.Machine
end

