-- ==== Sys2Proof/Machine/Protection.lean ====
section
/-!
DEFINITION. The protection-range codec (44_protection_codec.md): the size computations of LOCK and UNLOCK, the lock
query of WRITE and ERASE, and the host commands LOCK, UNLOCK, IS_LOCKED.
-/

namespace Sys2Proof.Machine

open Sys2Proof

/-! ## The codec's computations -/

/-- LOCK's checks and size computation on the status byte `old` (44_protection_codec.md rules R240 to R243): the new
status byte, or `none` for `InvalidArgument`. -/
def lockByte (c : Config) (cap off len : Nat) (old : Byte) : Option Byte :=
  if off + len ≠ cap ∧ isLockedSr c cap old (off + len) (cap - (off + len)) = false then none
  else
    let pow := leastShift cap (cap - off)
    if pow > 6 then none
    else
      let new := withProtField c old (7 - pow)
      if lockLen c cap new < lockLen c cap old then none else some new

/-- The protection field UNLOCK computes (44_protection_codec.md rules R245, R247): 0 when the request reaches the
device's end, else from the tail that stays protected; `none` when the tail cannot be encoded (rule R248). -/
def unlockField (c : Config) (cap off len : Nat) : Option Nat :=
  if off + len = cap then some 0
  else
    let rem := cap - (off + len)
    let pow := match c.unlockRound with
      | .keepTail => greatestShift cap rem
      | .freeRequest => leastShift cap rem
    if pow > 6 then none else some (7 - pow)

/-- UNLOCK's checks and size computation on the status byte `old` (44_protection_codec.md rules R245 to R248), `unit`
being the erase unit: the new status byte, or `none` for `InvalidArgument`. -/
def unlockByte (c : Config) (cap unit off len : Nat) (old : Byte) : Option Byte :=
  if unit ≤ off ∧ isLockedSr c cap old (off - unit) unit = true then none
  else
    match unlockField c cap off len with
    | none => none
    | some bp =>
      let new := withProtField c old bp
      if lockLen c cap old < lockLen c cap new then none else some new

/-! ## The lock query of WRITE and ERASE -/

/-- `AfterLQ(a)` (46_sequencer.md rule R279): `Locked`, or the first state of the loop. -/
def State.afterLQ (s : State) (a : Option Bool) : State :=
  if a = some true then s.endOutside .locked
  else
    let t := s.setCursor s.q.off 0
    if t.q.op = 0x03 then
      match t.dev.progVariant with
      | .page => (t.setChunk t.pageChunk).setFsm .wrWren
      | .byte => (t.setErr .ok).setFsm .bwWren
    else if t.q.op = 0x04 then ((t.setChunk t.dev.eraseSize).setErr .ok).setFsm .erWren
    else t

/-- `LQHead()` (46_sequencer.md rule R279; 44_protection_codec.md rule R236). -/
def State.lqHead (s : State) : State :=
  match s.cfg.lockQuery with
  | .absent => s.afterLQ none
  | .external => s.afterLockAnswer.afterLQ s.externalLock
  | .codec =>
    match s.dev.protVariant with
    | .none => s.afterLQ none
    | .bp => s.setFsm .lqRdsr

/-- Whether the command's range is locked by the status byte `sr` (44_protection_codec.md rule R234). -/
def State.rangeLocked (s : State) (sr : Byte) : Bool :=
  isLockedSr s.cfg s.dev.capacity.toNat sr s.q.off.toNat s.q.len.toNat

/-- `S_LQ_RDSR` on Ok (46_sequencer.md rule R283). -/
def State.lockQueried (rx : List Byte) (s : State) : State := s.afterLQ (some (s.rangeLocked (rx.headD 0)))

/-- `S_LK_RDSR` on Ok (46_sequencer.md rule R287). -/
def State.lockRead (rx : List Byte) (s : State) : State :=
  let t := s.setSrOld (rx.headD 0)
  match lockByte t.cfg t.dev.capacity.toNat t.q.off.toNat t.q.len.toNat t.q.srOld with
  | none => t.endOutside .invalidArgument
  | some new => (t.setSrNew new).setFsm .lkWren

/-- `S_UL_RDSR` on Ok (46_sequencer.md rule R287). -/
def State.unlockRead (rx : List Byte) (s : State) : State :=
  let t := s.setSrOld (rx.headD 0)
  match unlockByte t.cfg t.dev.capacity.toNat t.dev.eraseSize.toNat t.q.off.toNat t.q.len.toNat t.q.srOld with
  | none => t.endOutside .invalidArgument
  | some new => (t.setSrNew new).setFsm .ulWren

/-- `S_IL_RDSR` on Ok (46_sequencer.md rule R287): the answer is in `rsp.count`. -/
def State.isLockedRead (rx : List Byte) (s : State) : State :=
  s.endOk (if s.rangeLocked (rx.headD 0) then 1 else 0)

/-! ## The host commands -/

/-- The head LOCK, UNLOCK and IS_LOCKED share (46_sequencer.md rule R279): `Precheck`, then `Unsupported` on a chip
without protection bits (44_protection_codec.md rule R254), then the first exchange's state. -/
def State.protectionHead (s : State) (f : FsmState) : State :=
  s.withPrecheck (fun t =>
    match t.dev.protVariant with
    | .none => t.endOutside .unsupported
    | .bp => t.setFsm f)

/-- LOCK (44_protection_codec.md rule R240): the acceptance step. -/
def execLock (offset len : Word64) (s : State) : Host.Outcome State Fault Refusal :=
  .next (s.whenIdle (fun s => (s.load 0x05 offset len).protectionHead .lkRdsr))

/-- UNLOCK (44_protection_codec.md rule R245): the acceptance step. -/
def execUnlock (offset len : Word64) (s : State) : Host.Outcome State Fault Refusal :=
  .next (s.whenIdle (fun s => (s.load 0x06 offset len).protectionHead .ulRdsr))

/-- IS_LOCKED (44_protection_codec.md rule R235): the acceptance step. -/
def execIsLocked (offset len : Word64) (s : State) : Host.Outcome State Fault Refusal :=
  .next (s.whenIdle (fun s => (s.load 0x09 offset len).protectionHead .ilRdsr))

end Sys2Proof.Machine
end

