-- ==== Sys2Proof/Machine/ProgramEraseRead.lean ====
section
/-!
DEFINITION. Read, program, erase (43_program_erase_read.md): the host commands READ, WRITE, ERASE and the array frames
READ, READ_FAST, READ_DUAL, READ_QUAD, READ_QUAD_IO, PP, PP_QUAD, BP, AAI_WP, SE, BE_4K. A frame's meaning is one
sequencer step (46_sequencer.md rule R277): the exchange, then the row of the transition table that `q.FSM` names.
Where `q.FSM` names no state that issues the frame there is no caller to resume, and the frame is its exchange and
nothing else (log entry 9).
-/

namespace Sys2Proof.Machine

open Sys2Proof

/-! ## The host commands -/

/-- READ (43_program_erase_read.md rule R191): the acceptance step. A zero-length READ delivers zero bytes; after a
failed one `rsp.rbuf` is unspecified. -/
def execRead (offset len : Word64) (s : State) : Host.Outcome State Fault Refusal :=
  .next (s.whenIdle (fun s =>
    let t := s.load 0x02 offset len
    match t.precheck with
    | some .ok => (t.setRbuf []).endOutside .ok
    | some st => t.spoilRbuf.endOutside st
    | none => t.setFsm (if t.dev.window then .rdWin else .rdXfer)))

/-- WRITE (43_program_erase_read.md rule R194): the acceptance step. -/
def execWrite (offset len : Word64) (wbuf : List Byte) (s : State) : Host.Outcome State Fault Refusal :=
  .next (s.whenIdle (fun s => ((s.load 0x03 offset len).holdBuffer wbuf).withPrecheck State.lqHead))

/-- ERASE (43_program_erase_read.md rules R208, R209): the acceptance step. -/
def execErase (offset len : Word64) (s : State) : Host.Outcome State Fault Refusal :=
  .next (s.whenIdle (fun s =>
    (s.load 0x04 offset len).withPrecheck (fun t =>
      if t.q.len.toNat % t.dev.eraseSize.toNat = 0 then t.lqHead else t.endOutside .invalidArgument)))

/-! ## Array reads -/

/-- The step of `S_RD_WIN`: one window copy and no exchange (46_sequencer.md rule R283). -/
def State.windowStep (s : State) : State :=
  (s.afterWindow.setRbuf (s.windowBytes s.q.off.toNat s.q.len.toNat)).endOk s.q.len

/-- `S_RD_XFER` on Ok (46_sequencer.md rule R283). -/
def State.readDelivered (rx : List Byte) (s : State) : State := (s.setRbuf rx).endOk s.q.len

/-- `S_RD_XFER` on Err: `rsp.rbuf` is unspecified (43_program_erase_read.md rule R191). -/
def State.readFailed (s : State) : State := s.spoilRbuf.endOutside .transportError

/-- An array read of `n` bytes, answered `a`. -/
def State.afterArrayRead (s : State) (a : Answer) (n : Word64) : State :=
  match s.q.fsm with
  | .rdXfer => s.resume a n.toNat State.readFailed State.readDelivered
  | _ => s

/-- Frame READ (43_program_erase_read.md rule R192). -/
def execReadFrame (addr n : Word64) (s : State) : Host.Outcome State Fault Refusal :=
  .next ((s.exchange (.readFrame addr n)).2.afterArrayRead (s.exchange (.readFrame addr n)).1 n)

/-- Frame READ_FAST (43_program_erase_read.md rule R192). -/
def execReadFast (addr n : Word64) (s : State) : Host.Outcome State Fault Refusal :=
  .next ((s.exchange (.readFast addr n)).2.afterArrayRead (s.exchange (.readFast addr n)).1 n)

/-- Frame READ_DUAL (43_program_erase_read.md rule R192). -/
def execReadDual (addr n : Word64) (s : State) : Host.Outcome State Fault Refusal :=
  .next ((s.exchange (.readDual addr n)).2.afterArrayRead (s.exchange (.readDual addr n)).1 n)

/-- Frame READ_QUAD (43_program_erase_read.md rule R192). -/
def execReadQuad (addr n : Word64) (s : State) : Host.Outcome State Fault Refusal :=
  .next ((s.exchange (.readQuad addr n)).2.afterArrayRead (s.exchange (.readQuad addr n)).1 n)

/-- Frame READ_QUAD_IO (43_program_erase_read.md rule R193). -/
def execReadQuadIo (addr n : Word64) (s : State) : Host.Outcome State Fault Refusal :=
  .next ((s.exchange (.readQuadIo addr n)).2.afterArrayRead (s.exchange (.readQuadIo addr n)).1 n)

/-! ## Program frames -/

/-- After the program frame of a page chunk (46_sequencer.md rule R284). -/
def State.afterPageProgram (s : State) (a : Answer) : State :=
  match s.q.fsm with
  | .wrProg => s.resume a 0 (fun t => t.endInChunk .transportError) (fun _ t => t.callPoller t.cfg.tProg .wrPoll)
  | _ => s

/-- Frame PP (43_program_erase_read.md rule R196). -/
def execPp (addr : Word64) (data : List Byte) (s : State) : Host.Outcome State Fault Refusal :=
  .next ((s.exchange (.pp addr data)).2.afterPageProgram (s.exchange (.pp addr data)).1)

/-- Frame PP_QUAD (43_program_erase_read.md rule R196). -/
def execPpQuad (addr : Word64) (data : List Byte) (s : State) : Host.Outcome State Fault Refusal :=
  .next ((s.exchange (.ppQuad addr data)).2.afterPageProgram (s.exchange (.ppQuad addr data)).1)

/-- After the frame of a unit of byte mode (46_sequencer.md rule R285). -/
def State.afterUnitProgram (s : State) (a : Answer) : State :=
  match s.q.fsm with
  | .bwProg =>
    s.resume a 0 (fun t => (t.latch .transportError t.q.cur t.q.chunk).setFsm .bwWrdi)
      (fun _ t => t.callPoller t.cfg.tProg .bwPoll)
  | _ => s

/-- Frame BP (43_program_erase_read.md rules R203, R204). -/
def execBp (addr : Word64) (data : List Byte) (s : State) : Host.Outcome State Fault Refusal :=
  .next ((s.exchange (.bp addr data)).2.afterUnitProgram (s.exchange (.bp addr data)).1)

/-- Frame AAI_WP (43_program_erase_read.md rules R203, R204). -/
def execAaiWp (addr : Word64) (data : List Byte) (s : State) : Host.Outcome State Fault Refusal :=
  .next ((s.exchange (.aaiWp addr data)).2.afterUnitProgram (s.exchange (.aaiWp addr data)).1)

/-! ## Erase frames -/

/-- After the erase frame of a unit (46_sequencer.md rule R286). -/
def State.afterEraseFrame (s : State) (a : Answer) : State :=
  match s.q.fsm with
  | .erErase =>
    s.resume a 0 (fun t => (t.latch .transportError t.q.cur t.q.chunk).setFsm .erWrdi)
      (fun _ t => t.callPoller t.cfg.tErase .erPoll)
  | _ => s

/-- Frame SE (43_program_erase_read.md rule R210). -/
def execSe (addr : Word64) (s : State) : Host.Outcome State Fault Refusal :=
  .next ((s.exchange (.se addr)).2.afterEraseFrame (s.exchange (.se addr)).1)

/-- Frame BE_4K (43_program_erase_read.md rule R210). -/
def execBe4k (addr : Word64) (s : State) : Host.Outcome State Fault Refusal :=
  .next ((s.exchange (.be4k addr)).2.afterEraseFrame (s.exchange (.be4k addr)).1)

end Sys2Proof.Machine
end

