-- ==== Sys2Proof/Machine/RegisterAccess.lean ====
section
/-!
DEFINITION. The register access frames RDID, RDSR, WRSR, RDFSR, WREN, WRDI, RDVR, WRVR (40_register_access.md). A frame's
meaning is one sequencer step (46_sequencer.md rule R277): the exchange, then the row of the transition table that
`q.FSM` names (46_sequencer.md rules R282 to R288). Where `q.FSM` names no state that issues the frame there is no
caller to resume, and the frame is its exchange and nothing else (log entry 9).
-/

namespace Sys2Proof.Machine

open Sys2Proof

/-- The "on Err" column of every exchange outside the loops: `End(TransportError, 0)`. -/
def State.transportFailed (s : State) : State := s.endOutside .transportError

/-- Frame RDID (40_register_access.md rule R131). -/
def execRdid (s : State) : Host.Outcome State Fault Refusal :=
  let t := (s.exchange .rdid).2
  let a := (s.exchange .rdid).1
  .next (match t.q.fsm with
    | .idRdid => t.identifyAnswered a
    | _ => t)

/-- Frame RDSR (40_register_access.md rule R132): the negotiator's, the lock query's, the codec's and the poller's
status read. -/
def execRdsr (s : State) : Host.Outcome State Fault Refusal :=
  let t := (s.exchange .rdsr).2
  let a := (s.exchange .rdsr).1
  .next (match t.q.fsm with
    | .qnRdsr => t.resume a 1 State.transportFailed State.quadStatusRead
    | .lqRdsr => t.resume a 1 State.transportFailed State.lockQueried
    | .lkRdsr => t.resume a 1 State.transportFailed State.lockRead
    | .ulRdsr => t.resume a 1 State.transportFailed State.unlockRead
    | .ilRdsr => t.resume a 1 State.transportFailed State.isLockedRead
    | .plRdsr => t.resume a 1 (fun u => u.failPoll .transportError) State.pollStatus
    | _ => t)

/-- Frame WRSR (40_register_access.md rule R133): the codec's status write, after which nothing is polled
(44_protection_codec.md rule R244). -/
def execWrsr (payload : List Byte) (s : State) : Host.Outcome State Fault Refusal :=
  let t := (s.exchange (.wrsr payload)).2
  let a := (s.exchange (.wrsr payload)).1
  .next (match t.q.fsm with
    | .lkWrsr => t.resume a 0 State.transportFailed (fun _ u => u.endOk 0)
    | .ulWrsr => t.resume a 0 State.transportFailed (fun _ u => u.endOk 0)
    | _ => t)

/-- Frame RDFSR (40_register_access.md rule R134): the poller's second read. -/
def execRdfsr (s : State) : Host.Outcome State Fault Refusal :=
  let t := (s.exchange .rdfsr).2
  let a := (s.exchange .rdfsr).1
  .next (match t.q.fsm with
    | .plRdfsr => t.resume a 1 (fun u => u.failPoll .transportError) State.pollFlagStatus
    | _ => t)

/-- Frame WREN (40_register_access.md rule R135), in each of its six states. -/
def execWren (s : State) : Host.Outcome State Fault Refusal :=
  let t := (s.exchange .wren).2
  let a := (s.exchange .wren).1
  .next (match t.q.fsm with
    | .qnWren => t.resume a 0 State.transportFailed (fun _ u => u.setFsm .qnWr)
    | .wrWren => t.resume a 0 (fun u => u.endInChunk .transportError) (fun _ u => u.setFsm .wrProg)
    | .bwWren =>
      t.resume a 0 (fun u => (u.latch .transportError u.q.cur u.q.len).setFsm .bwWrdi)
        (fun _ u => (u.setChunk u.unitChunk).setFsm .bwProg)
    | .erWren =>
      t.resume a 0 (fun u => (u.latch .transportError u.q.cur u.q.chunk).setFsm .erWrdi)
        (fun _ u => u.setFsm .erErase)
    | .lkWren => t.resume a 0 State.transportFailed (fun _ u => u.setFsm .lkWrsr)
    | .ulWren => t.resume a 0 State.transportFailed (fun _ u => u.setFsm .ulWrsr)
    | _ => t)

/-- The closing write-disable `WRDI'()` (43_program_erase_read.md rules R205, R211; 46_sequencer.md rules R285, R286):
the first error wins, and a failing write-disable never overwrites a latched cause. -/
def State.closeWith (s : State) (a : Answer) : State :=
  if s.q.err ≠ .ok then s.endLatched
  else
    match answerFailure 0 a with
    | some c => (s.setCause c).endWith .transportError s.q.doneBytes s.q.off s.q.len
    | none => s.endOk s.q.doneBytes

/-- Frame WRDI (40_register_access.md rule R136): the closing write-disable of byte mode and of erase. -/
def execWrdi (s : State) : Host.Outcome State Fault Refusal :=
  let t := (s.exchange .wrdi).2
  let a := (s.exchange .wrdi).1
  .next (match t.q.fsm with
    | .bwWrdi => t.closeWith a
    | .erWrdi => t.closeWith a
    | _ => t)

/-- Frame RDVR (40_register_access.md rule R137): the negotiator's first read and its read-back. -/
def execRdvr (op : Byte) (s : State) : Host.Outcome State Fault Refusal :=
  let t := (s.exchange (.rdvr op)).2
  let a := (s.exchange (.rdvr op)).1
  .next (match t.quadProc, t.q.fsm with
    | some v, .qnRd1 => t.resume a 1 State.transportFailed (State.quadFirstRead v)
    | some v, .qnRd2 => t.resume a 1 State.transportFailed (State.quadReadBack v)
    | _, _ => t)

/-- Frame WRVR (40_register_access.md rule R138): the negotiator's write, followed by the poll. -/
def execWrvr (op : Byte) (payload : List Byte) (s : State) : Host.Outcome State Fault Refusal :=
  let t := (s.exchange (.wrvr op payload)).2
  let a := (s.exchange (.wrvr op payload)).1
  .next (match t.q.fsm with
    | .qnWr => t.resume a 0 State.transportFailed (fun _ u => u.callPoller u.cfg.tQuad .qnPoll)
    | _ => t)

end Sys2Proof.Machine
end

