-- ==== Sys2Proof/Machine/Dispatch.lean ====
section
/-!
DEFINITION. The dispatch: one arm for each row of spec/opcode_table.json, the host commands first.
-/

namespace Sys2Proof.Machine

open Sys2Proof

def exec (i : Instr) (s : State) : Host.Outcome State Fault Refusal :=
  match i with
  | .identify off len => Sys2Proof.Machine.execIdentify off len s
  | .read off len => Sys2Proof.Machine.execRead off len s
  | .write off len wbuf => Sys2Proof.Machine.execWrite off len wbuf s
  | .erase off len => Sys2Proof.Machine.execErase off len s
  | .lock off len => Sys2Proof.Machine.execLock off len s
  | .unlock off len => Sys2Proof.Machine.execUnlock off len s
  | .geometry off len => Sys2Proof.Machine.execGeometry off len s
  | .reprobe off len => Sys2Proof.Machine.execReprobe off len s
  | .isLocked off len => Sys2Proof.Machine.execIsLocked off len s
  | .rdid => Sys2Proof.Machine.execRdid s
  | .rdsr => Sys2Proof.Machine.execRdsr s
  | .wrsr payload => Sys2Proof.Machine.execWrsr payload s
  | .rdfsr => Sys2Proof.Machine.execRdfsr s
  | .wren => Sys2Proof.Machine.execWren s
  | .wrdi => Sys2Proof.Machine.execWrdi s
  | .rdvr op => Sys2Proof.Machine.execRdvr op s
  | .wrvr op payload => Sys2Proof.Machine.execWrvr op payload s
  | .readFrame addr n => Sys2Proof.Machine.execReadFrame addr n s
  | .readFast addr n => Sys2Proof.Machine.execReadFast addr n s
  | .readDual addr n => Sys2Proof.Machine.execReadDual addr n s
  | .readQuad addr n => Sys2Proof.Machine.execReadQuad addr n s
  | .readQuadIo addr n => Sys2Proof.Machine.execReadQuadIo addr n s
  | .pp addr data => Sys2Proof.Machine.execPp addr data s
  | .ppQuad addr data => Sys2Proof.Machine.execPpQuad addr data s
  | .bp addr data => Sys2Proof.Machine.execBp addr data s
  | .aaiWp addr data => Sys2Proof.Machine.execAaiWp addr data s
  | .se addr => Sys2Proof.Machine.execSe addr s
  | .be4k addr => Sys2Proof.Machine.execBe4k addr s

end Sys2Proof.Machine
end

