-- ==== Sys2Proof/Machine/Fetch.lean ====
section
/-!
DEFINITION. What the next step executes. In `S_IDLE` it is the command record at the port, decoded by its code; in any
other rest state it is the frame that state issues (46_sequencer.md rules R276, R277, R282 to R288), with its operands
read from the registers. There is no fetch from any memory (10_state.md rule R28). Also how a state is given one
instruction to execute next (`State.presenting`), which Step.lean's `withFetchWord` calls.
-/

namespace Sys2Proof.Machine

open Sys2Proof

/-- The array read frame of the selected read opcode (43_program_erase_read.md rule R192). -/
def State.readFrameInstr (s : State) : Instr :=
  match s.dev.readOpcode with
  | .read => .readFrame s.q.off s.q.len
  | .readFast => .readFast s.q.off s.q.len
  | .readDual => .readDual s.q.off s.q.len
  | .readQuad => .readQuad s.q.off s.q.len
  | .readQuadIo => .readQuadIo s.q.off s.q.len

/-- The program frame of the page chunk in flight (43_program_erase_read.md rule R196). -/
def State.pageFrameInstr (s : State) : Instr :=
  match s.dev.programOpcode with
  | .pp => .pp s.q.cur s.chunkData
  | .ppQuad => .ppQuad s.q.cur s.chunkData

/-- The frame of the byte-mode unit in flight: BP for one byte, AAI_WP for a pair (43_program_erase_read.md rule
R203). -/
def State.unitFrameInstr (s : State) : Instr :=
  if s.q.chunk = 1 then .bp s.q.cur s.chunkData else .aaiWp s.q.cur s.chunkData

/-- The erase frame of the unit at the cursor (43_program_erase_read.md rule R210). -/
def State.eraseFrameInstr (s : State) : Instr :=
  match s.dev.eraseOpcode with
  | .se => .se s.q.cur
  | .be4k => .be4k s.q.cur

/-- The frame the rest state `q.FSM` issues (46_sequencer.md rule R276, fourth column); `none` in `S_IDLE` and
`S_RD_WIN`, which issue none, and in a negotiation state whose vendor has no procedure, which no rule enters. -/
def State.fetchFrame (s : State) : Option Instr :=
  match s.q.fsm with
  | .idle => none
  | .rdWin => none
  | .idRdid => some .rdid
  | .qnRd1 => s.quadProc.map (fun v => .rdvr v.rdOp)
  | .qnRdsr => some .rdsr
  | .qnWren => some .wren
  | .qnWr => s.quadProc.map (fun v => .wrvr v.wrOp (s.quadPayload v))
  | .qnRd2 => s.quadProc.map (fun v => .rdvr v.rdOp)
  | .rdXfer => some s.readFrameInstr
  | .lqRdsr => some .rdsr
  | .wrWren => some .wren
  | .wrProg => some s.pageFrameInstr
  | .bwWren => some .wren
  | .bwProg => some s.unitFrameInstr
  | .bwWrdi => some .wrdi
  | .erWren => some .wren
  | .erErase => some s.eraseFrameInstr
  | .erWrdi => some .wrdi
  | .lkRdsr => some .rdsr
  | .lkWren => some .wren
  | .lkWrsr => some (.wrsr [s.q.srNew])
  | .ulRdsr => some .rdsr
  | .ulWren => some .wren
  | .ulWrsr => some (.wrsr [s.q.srNew])
  | .ilRdsr => some .rdsr
  | .plRdsr => some .rdsr
  | .plRdfsr => some .rdfsr

/-! ## Placing one instruction -/

/-- The command record `r` alone at the port, the sequencer idle. -/
def State.presentRecord (s : State) (r : CommandRecord) : State :=
  (({ s with env := { s.env with port := [r], resetLine := false } } : State)).setFsm .idle

/-- No reset pending, and `q.FSM` in the rest state `f`. -/
def State.restIn (s : State) (f : FsmState) : State :=
  (({ s with env := { s.env with resetLine := false } } : State)).setFsm f

/-- The state in which the quad negotiation of the configuration's first vendor whose procedure uses the opcodes
asked for is in the rest state `f`. -/
def State.restInQuad (s : State) (f : FsmState) (uses : QuadProc → Bool) (k : QuadProc → State → State) : State :=
  match s.cfg.quadVendors.find? (fun e => uses e.2) with
  | some (vid, v) => k v ((s.setIdbuf (vid :: List.replicate (s.cfg.idMaxLen - 1) 0)).restIn f)
  | none => s.restIn f

/-- `s` with everything set that makes the frame or command `i` the next thing executed: for a command, its record
at the port; for a frame, a rest state that issues it and the registers its operands are read from. -/
def State.presenting (s : State) (i : Instr) : State :=
  match i with
  | .identify off len => s.presentRecord (commandRecord 0x01 off len [])
  | .read off len => s.presentRecord (commandRecord 0x02 off len [])
  | .write off len wbuf => s.presentRecord (commandRecord 0x03 off len wbuf)
  | .erase off len => s.presentRecord (commandRecord 0x04 off len [])
  | .lock off len => s.presentRecord (commandRecord 0x05 off len [])
  | .unlock off len => s.presentRecord (commandRecord 0x06 off len [])
  | .geometry off len => s.presentRecord (commandRecord 0x07 off len [])
  | .reprobe off len => s.presentRecord (commandRecord 0x08 off len [])
  | .isLocked off len => s.presentRecord (commandRecord 0x09 off len [])
  | .rdid => s.restIn .idRdid
  | .rdsr => s.restIn .plRdsr
  | .wrsr p => (s.setSrNew (p.headD 0)).restIn .lkWrsr
  | .rdfsr => s.restIn .plRdfsr
  | .wren => s.restIn .lkWren
  | .wrdi => s.restIn .erWrdi
  | .rdvr op => s.restInQuad .qnRd1 (fun v => v.rdOp == op) (fun _ t => t)
  | .wrvr op p =>
    s.restInQuad .qnWr (fun v => v.wrOp == op && v.payload == .regOnly) (fun _ t => t.setReg (p.headD 0))
  | .readFrame a n => (s.load 0x02 a n |>.setDev { s.dev with readOpcode := .read }).restIn .rdXfer
  | .readFast a n => (s.load 0x02 a n |>.setDev { s.dev with readOpcode := .readFast }).restIn .rdXfer
  | .readDual a n => (s.load 0x02 a n |>.setDev { s.dev with readOpcode := .readDual }).restIn .rdXfer
  | .readQuad a n => (s.load 0x02 a n |>.setDev { s.dev with readOpcode := .readQuad }).restIn .rdXfer
  | .readQuadIo a n => (s.load 0x02 a n |>.setDev { s.dev with readOpcode := .readQuadIo }).restIn .rdXfer
  | .pp a d =>
    (((s.holdBuffer d).setCursor a 0).setChunk (BitVec.ofNat 64 d.length)
      |>.setDev { s.dev with programOpcode := .pp }).restIn .wrProg
  | .ppQuad a d =>
    (((s.holdBuffer d).setCursor a 0).setChunk (BitVec.ofNat 64 d.length)
      |>.setDev { s.dev with programOpcode := .ppQuad }).restIn .wrProg
  | .bp a d => (((s.holdBuffer d).setCursor a 0).setChunk 1).restIn .bwProg
  | .aaiWp a d => (((s.holdBuffer d).setCursor a 0).setChunk 2).restIn .bwProg
  | .se a => ((s.setCursor a 0).setDev { s.dev with eraseOpcode := .se }).restIn .erErase
  | .be4k a => ((s.setCursor a 0).setDev { s.dev with eraseOpcode := .be4k }).restIn .erErase

/-- The word of the opcode table given to `s`: the instruction its decoder reads from it is executed next; a word
that names nothing is a command record with that code. -/
def State.presentingWord (s : State) (nbits w : Nat) : State :=
  match decodeTableWord nbits w with
  | some i => s.presenting i
  | none =>
    match recordOfBytes (bytesLE (w % 2 ^ nbits) 24) with
    | .ok (r, _) => s.presentRecord r
    | .error _ => s

end Sys2Proof.Machine
end

