-- ==== Sys2Proof/Machine/Step.lean ====
section
/-!
DEFINITION. One step of the machine (46_sequencer.md rules R277 to R279), and how an instruction is placed where the
next step finds it.
-/

namespace Sys2Proof.Machine

open Sys2Proof

/-- The acceptance step of `S_IDLE` (46_sequencer.md rule R279): with no record presented nothing changes; a record is
taken and its command executed; a reserved code is answered `Unsupported` (30_encoding.md rule R96). -/
def stepIdle (s : State) : Host.Outcome State Fault Refusal :=
  match s.env.port with
  | [] => .next s
  | r :: _ =>
    match decodeRecord r with
    | .ok i => exec i s.takeRecord
    | .error (.reservedCode _) => .next (s.takeRecord.acceptReserved r)
    | .error _ => .refused .malformedRecord

/-- The step of any other rest state (46_sequencer.md rule R277): its window copy, or its one frame. -/
def stepBusy (s : State) : Host.Outcome State Fault Refusal :=
  if s.q.fsm = .rdWin then .next s.windowStep
  else
    match s.fetchFrame with
    | some i => exec i s
    | none => .fault .noQuadProcedure

/-- One step. A configuration that breaks rule R7 is refused, as that rule says (00_scope.md rule R7); a reset that has arrived is taken
before anything else (70_reset_and_hazards.md rule R343). -/
def step (s : State) : Host.Outcome State Fault Refusal :=
  if s.cfg.wf = false then .refused .badConfiguration
  else if s.env.resetLine = true then .next s.doReset
  else if s.q.fsm = .idle then stepIdle s
  else stepBusy s

/-- `s` with the opcode table's word `w` where the next step finds its instruction: for a host command, its record
alone at the port of an idle sequencer; for a frame, a rest state that issues it, and the registers it takes its
operands from. -/
def State.withFetchWord (s : State) (nbits w : Nat) : State := s.presentingWord nbits w

end Sys2Proof.Machine
end

