-- ==== Sys2Proof/Safety.lean ====
section
/-!
DEFINITION. What counts as a safe run, in the terms the statements use: the invariant `State.Inv` of every reachable
state, clause by clause; the well-formedness of what the environment presents; the ranges of the flash array a frame may
change.
-/

namespace Sys2Proof

/-! ## What crosses the ports -/

/-- The opcode bytes the controller can issue (30_encoding.md rule R110). -/
def Config.issuable (c : Config) : List Byte :=
  [c.opc.rdid, c.opc.rdsr, c.opc.wrsr, c.opc.rdfsr, c.opc.wren, c.opc.wrdi, c.opc.read, c.opc.readFast, c.opc.readDual,
   c.opc.readQuad, c.opc.readQuadIo, c.opc.pp, c.opc.ppQuad, c.opc.bp, c.opc.aaiWp, c.opc.se, c.opc.be4k]
  ++ c.quadVendors.flatMap (fun e => [e.2.rdOp, e.2.wrOp])

/-- An exchange the interface allows and its answer (20_memory.md rule R62; 30_encoding.md rule R110): the frame begins
with an opcode byte of the configuration, at most one of the two payloads is present, and at most the bytes asked for are
received. -/
def Event.legal (c : Config) : Event → Prop
  | .xfer x r =>
    (∃ op rest, x.cmd = op :: rest ∧ op ∈ c.issuable) ∧ (x.tx = none ∨ x.rxn = none)
      ∧ (Machine.answerBytes r).length ≤ x.rxn.getD 0
  | .clock _ => True

/-- A record of format H: the buffer of a WRITE has exactly `len` bytes (30_encoding.md rule R91). -/
def CommandRecord.ok (r : CommandRecord) : Prop := r.code = 0x03 → r.wbuf.length = r.len.toNat

end Sys2Proof

namespace Sys2Proof.Machine

open Sys2Proof

/-! ## Where the sequencer stands -/

/-- The five rest states of the quad negotiation (46_sequencer.md rule R276). -/
def FsmState.isQuad : FsmState → Bool
  | .qnRd1 | .qnRdsr | .qnWren | .qnWr | .qnRd2 => true
  | _ => false

/-- The two rest states of the poller (46_sequencer.md rule R276). -/
def FsmState.isPoll : FsmState → Bool
  | .plRdsr | .plRdfsr => true
  | _ => false

/-- The poller runs for the call site `l` (46_sequencer.md rule R281). -/
def State.pollingFor (s : State) (l : PollLabel) : Bool := s.q.fsm.isPoll && s.q.ret == l

/-- The quad negotiation runs, its poll included (45_quad_negotiator.md rule R262). -/
def State.negotiating (s : State) : Bool := s.q.fsm.isQuad || s.pollingFor .qnPoll

/-- A chunk of the page loop is in flight, its poll included (43_program_erase_read.md rule R197). -/
def State.inPageLoop (s : State) : Bool := s.q.fsm == .wrWren || s.q.fsm == .wrProg || s.pollingFor .wrPoll

/-- A unit of byte mode is in flight, its poll included (43_program_erase_read.md rule R204). -/
def State.inUnitLoop (s : State) : Bool := s.q.fsm == .bwProg || s.pollingFor .bwPoll

/-- A unit of the erase loop is in flight, its poll included (43_program_erase_read.md rule R208). -/
def State.inEraseLoop (s : State) : Bool := s.q.fsm == .erWren || s.q.fsm == .erErase || s.pollingFor .erPoll

/-- A command that passed `Precheck()` runs: every rest state but `S_IDLE` and those of IDENTIFY. -/
def State.onArray (s : State) : Bool := s.q.fsm != .idle && s.q.fsm != .idRdid && !s.negotiating

/-! ## The clauses of the invariant -/

/-- Every derived field of `dev` is what the derivation gives for the identification response held in `q.IDBUF`
(41_identification.md rules R153 to R163). -/
def State.devDerived (s : State) : Prop :=
  ∃ d, firstMatchFrom 0 s.cfg.chipTable s.q.idbuf = some (s.dev.desc, d)
    ∧ s.dev = deriveDev s.cfg s.dev.desc d s.q.idbuf s.dev

/-- What `Precheck()` leaves established (60_exceptions.md rule R315). -/
def State.rangeOk (s : State) : Prop :=
  s.dev.identified = true ∧ 1 ≤ s.q.len.toNat ∧ s.q.off.toNat + s.q.len.toNat ≤ s.dev.capacity.toNat

/-- The cursor of a loop with a chunk or unit in flight (43_program_erase_read.md rules R197, R204, R208):
`q.CUR = q.OFF + q.DONE`, and the chunk is part of what is left. -/
def State.cursorOk (s : State) : Prop :=
  s.q.cur.toNat = s.q.off.toNat + s.q.doneBytes.toNat ∧ 1 ≤ s.q.chunk.toNat
    ∧ s.q.doneBytes.toNat + s.q.chunk.toNat ≤ s.q.len.toNat

/-- A WRITE runs, with the buffer its record brought (30_encoding.md rule R91). -/
def State.writeHeld (s : State) (v : ProgVariant) : Prop :=
  s.q.op = 0x03 ∧ s.dev.progVariant = v ∧ s.wbuf.length = s.q.len.toNat

/-- An ERASE of whole erase units runs (43_program_erase_read.md rule R209). -/
def State.eraseHeld (s : State) : Prop := s.q.op = 0x04 ∧ s.q.len.toNat % s.dev.eraseSize.toNat = 0

/-- The page loop's chunk (43_program_erase_read.md rules R195, R198). -/
def State.pageLoopOk (s : State) : Prop :=
  s.writeHeld .page ∧ s.cursorOk
    ∧ s.q.cur.toNat % s.dev.pageSize.toNat + s.q.chunk.toNat ≤ s.dev.pageSize.toNat
    ∧ ∀ m, s.cfg.maxWrite = some m → s.q.chunk.toNat ≤ m

/-- Byte mode's unit (43_program_erase_read.md rule R203). -/
def State.unitLoopOk (s : State) : Prop :=
  s.writeHeld .byte ∧ s.cursorOk ∧ s.q.err = .ok ∧ s.q.chunk = s.unitChunk

/-- Byte mode before its write-enable has succeeded: nothing done yet (43_program_erase_read.md rule R204). -/
def State.unitStartOk (s : State) : Prop :=
  s.writeHeld .byte ∧ s.q.cur = s.q.off ∧ s.q.doneBytes = 0 ∧ s.q.err = .ok

/-- The erase loop's unit (43_program_erase_read.md rule R208). -/
def State.eraseLoopOk (s : State) : Prop :=
  s.eraseHeld ∧ s.cursorOk ∧ s.q.err = .ok ∧ s.q.chunk = s.dev.eraseSize
    ∧ s.q.doneBytes.toNat % s.dev.eraseSize.toNat = 0

/-- A loop closes with its write-disable: everything is done, or an error is latched (43_program_erase_read.md rules
R205, R211). -/
def State.closingOk (s : State) : Prop :=
  s.q.cur.toNat = s.q.off.toNat + s.q.doneBytes.toNat ∧ s.q.doneBytes.toNat ≤ s.q.len.toNat
    ∧ (s.q.err = .ok → s.q.doneBytes = s.q.len)

/-- The lock query runs for a WRITE with its buffer or an ERASE of whole units (44_protection_codec.md rule R236). -/
def State.lockQueryOk (s : State) : Prop :=
  s.cfg.lockQuery = .codec ∧ s.dev.protVariant = .bp
    ∧ ((s.q.op = 0x03 ∧ s.wbuf.length = s.q.len.toNat) ∨ s.eraseHeld)

/-- The clock samples of a history, oldest first. -/
def clockSamples (h : List Event) : List Nat :=
  h.filterMap (fun e => match e with | .xfer _ _ => none | .clock t => some t)

/-- The event history holds legal exchanges and clock samples that never decrease (60_exceptions.md rule R325). -/
def State.historyOk (s : State) : Prop :=
  (∀ e ∈ s.hist, e.legal s.cfg) ∧ (clockSamples s.hist).Pairwise (· ≤ ·)
    ∧ ∀ t ∈ clockSamples s.hist, t ≤ s.env.lastSample

/-- The chip `WB`, where it stands behind the transport: its array in canonical form, bits 0 and 1 of its status register
0 (95_test_vectors.md section 5). -/
def State.chipOk (s : State) : Prop :=
  match s.env.transport with
  | .oracle => True
  | .wellBehaved ch => ch.mem.wf ∧ ch.sr &&& 0x03 = 0

/-- The invariant of the controller. -/
structure State.Inv (s : State) : Prop where
  /-- The configuration meets 00_scope.md rule R7. -/
  config : s.cfg.wf = true
  /-- `q.IDBUF` is `ID_MAX_LEN` bytes wide (10_state.md rule R26). -/
  idbuf : s.q.idbuf.length = s.cfg.idMaxLen
  /-- The derived fields hold their values (41_identification.md rules R153 to R163, R165). -/
  derived : (s.dev.identified || s.negotiating) = true → s.devDerived
  /-- IDENTIFY runs only on an unidentified device (41_identification.md rule R150). -/
  identifying : (s.q.fsm == .idRdid || s.negotiating) = true → s.dev.identified = false
  /-- The negotiation runs only with a quad opcode selected and a vendor in the table (45_quad_negotiator.md rule R262). -/
  vendor : s.negotiating = true → s.dev.quadSelected = true ∧ ∃ v, s.quadProc = some v
  /-- The status read of the negotiation is made only for `SR_THEN_REG` (45_quad_negotiator.md rule R264). -/
  payload : s.q.fsm = .qnRdsr → ∃ v, s.quadProc = some v ∧ v.payload = .srThenReg
  /-- A command past `Precheck()` has an identified device and a range inside it (60_exceptions.md rule R315). -/
  range : s.onArray = true → s.rangeOk
  /-- READ goes through the window exactly when there is one (43_program_erase_read.md rule R192). -/
  window : (s.q.fsm = .rdWin → s.dev.window = true) ∧ (s.q.fsm = .rdXfer → s.dev.window = false)
  lockQuery : s.q.fsm = .lqRdsr → s.lockQueryOk
  pageLoop : s.inPageLoop = true → s.pageLoopOk
  unitStart : s.q.fsm = .bwWren → s.unitStartOk
  unitLoop : s.inUnitLoop = true → s.unitLoopOk
  unitEnd : s.q.fsm = .bwWrdi → s.closingOk
  eraseLoop : s.inEraseLoop = true → s.eraseLoopOk
  eraseEnd : s.q.fsm = .erWrdi → s.closingOk
  /-- The poller's entry sample is not after the clock's last sample (60_exceptions.md rule R325). -/
  poll : s.q.fsm.isPoll = true → s.q.t0.toNat ≤ s.env.lastSample
  /-- The flag status register is read only where the descriptor asks for it (40_register_access.md rule R134). -/
  flagStatus : s.q.fsm = .plRdfsr → s.dev.useFsr = true
  /-- `WriteProtected` is never written (60_exceptions.md rule R323). -/
  reserved : s.q.err ≠ .writeProtected ∧ s.rsp.status ≠ .writeProtected
  history : s.historyOk
  chip : s.chipOk

/-! ## What the environment presents -/

/-- The record at the port, if any, is one of format H. -/
def State.portOk (s : State) : Prop := ∀ r, s.env.port.head? = some r → r.ok

/-- The six commands that start with `Precheck()`, with their operands (60_exceptions.md rule R315). -/
def arrayCommand : Instr → Option (Word64 × Word64)
  | .read off len => some (off, len)
  | .write off len _ => some (off, len)
  | .erase off len => some (off, len)
  | .lock off len => some (off, len)
  | .unlock off len => some (off, len)
  | .isLocked off len => some (off, len)
  | _ => none

/-- From `s`, the command ended in its acceptance step with status `st` and the failure fields `off`, `len`: count 0,
back in `S_IDLE`, no exchange, no change to `dev` (46_sequencer.md rules R279, R280; 60_exceptions.md rule R311). -/
def State.endedAtOnce (s t : State) (st : Status) (off len : Word64) : Prop :=
  t.q.fsm = .idle ∧ t.rsp.status = st ∧ t.rsp.count = 0
    ∧ (st ≠ .ok → t.rsp.failOff = off ∧ t.rsp.failLen = len)
    ∧ t.dev = s.dev ∧ t.cfg = s.cfg ∧ t.hist = s.hist ∧ t.env.transport = s.env.transport

/-! ## One exchange -/

/-- What the transport answers when `s` issues the frame `i`. -/
def State.reply (s : State) (i : Instr) : Answer := (s.exchange i).1

/-- `s` after the exchange of the frame `i`: the frame in `dev.cmdbuf`, the event in the history, the transport moved
on. -/
def State.sent (s : State) (i : Instr) : State := (s.exchange i).2

/-- The response record of a command that ended with an error (46_sequencer.md rule R280). -/
def Rsp.error (r : Rsp) (st : Status) (count fo fl : Word64) : Rsp :=
  { r with status := st, count := count, failOff := fo, failLen := fl }

/-- The response record of a command that ended with `TransportError` (60_exceptions.md rules R311, R321). -/
def Rsp.transportError (r : Rsp) (cause : Cause) (count fo fl : Word64) : Rsp :=
  { r with status := .transportError, count := count, failOff := fo, failLen := fl, cause := cause }

/-- The response record of a command that ended with success. -/
def Rsp.success (r : Rsp) (count : Word64) : Rsp := { r with status := .ok, count := count }

/-! ## The registers a loop starts with -/

/-- The length of the chunk that starts at `cur` with `left` bytes left (43_program_erase_read.md rule R195). -/
def State.chunkAt (s : State) (cur left : Nat) : Word64 :=
  BitVec.ofNat 64 (minLimit (min left (s.dev.pageSize.toNat - cur % s.dev.pageSize.toNat)) s.cfg.maxWrite)

/-- The length of the byte-mode unit that starts at `cur` with `left` bytes left (43_program_erase_read.md rule R203). -/
def unitAt (cur left : Nat) : Word64 := if cur % 2 = 1 ∨ left = 1 then 1 else 2

/-- The registers with the page loop of a WRITE of `[off, off + len)` at its first chunk (46_sequencer.md rule R279). -/
def State.pageStart (s : State) (off len : Word64) : Seq :=
  { s.q with op := 0x03, off := off, len := len, cur := off, doneBytes := 0, chunk := s.chunkAt off.toNat len.toNat,
             fsm := .wrWren }

/-- The registers with byte mode of a WRITE of `[off, off + len)` before its write-enable (46_sequencer.md rule R279). -/
def State.unitStart (s : State) (off len : Word64) : Seq :=
  { s.q with op := 0x03, off := off, len := len, cur := off, doneBytes := 0, err := .ok, fsm := .bwWren }

/-- The registers with an ERASE of `[off, off + len)` at its first unit (46_sequencer.md rule R279). -/
def State.eraseStart (s : State) (off len : Word64) : Seq :=
  { s.q with op := 0x04, off := off, len := len, cur := off, doneBytes := 0, chunk := s.dev.eraseSize, err := .ok,
             fsm := .erWren }

/-- The registers with the loop of a WRITE at its start, by the program variant (10_state.md rule R33). -/
def State.writeStart (s : State) (off len : Word64) : Seq :=
  match s.dev.progVariant with
  | .page => s.pageStart off len
  | .byte => s.unitStart off len

/-! ## What a frame may change in the flash array -/

/-- Whether an erase of the unit of `unit` bytes containing `addr` reaches the byte `a`: it erases its whole unit, or, where
that reaches into the protected suffix, nothing (95_test_vectors.md section 5). -/
def Chip.mayErase (ch : Chip) (c : Config) (addr : Word64) (unit a : Nat) : Bool :=
  let base := addr.toNat - addr.toNat % unit
  decide (base ≤ a ∧ a < base + unit ∧ base + unit ≤ ch.limit c)

/-- Whether the frame `i` may change the byte at flash address `a` of `ch` (95_test_vectors.md section 5): none does with
the write-enable latch clear; a program frame changes only bytes from its address on, as many as its payload, below the
protected suffix; an erase frame only the unit containing its address. -/
def Chip.mayChange (ch : Chip) (c : Config) (i : Instr) (a : Nat) : Bool :=
  ch.wel && match i with
  | .pp addr data | .ppQuad addr data | .bp addr data | .aaiWp addr data =>
    decide (addr.toNat ≤ a ∧ a < addr.toNat + data.length ∧ a < ch.limit c)
  | .se addr => ch.mayErase c addr ch.desc.sectorSize a
  | .be4k addr => ch.mayErase c addr 4096 a
  | _ => false

end Sys2Proof.Machine
end

