-- ==== Sys2Proof/Certificates/Slice0/Obligations.lean ====
section
/-!
DEFINITION. The statements for the provers, one `def Obligations.<Name> : Prop` each, listed in OBLIGATIONS.json. They
follow the numbered rules of spec/: encodings, the step, what every command and every frame does, the checks and their
order, the poller, the protection codec, identification, the invariant that every step keeps, and the chip `WB` where a
statement speaks of the flash array.

In a statement `s.reply i` is the transport's answer to the frame `i` issued in `s`, and `s.sent i` is `s` after that
exchange: `ExchangeEffect` says what the exchange changes. A next state written as `{ s.sent i with … }` is the frame's
frame condition as well: whatever is not named is as in `s.sent i`. Where the spec says that a register holds no value
there (scratch registers after a command's end, derived fields of an unidentified device, fields of `rsp` that the command
does not write), that it keeps its old one is the MODEL's choice (log entry 17), and no rule is cited for it.
-/

open Sys2Proof Sys2Proof.Machine

/-! ## Encodings -/

/-- A few words written out from the spec's encodings decode to the instruction they stand for (30_encoding.md rules R91,
R92, R104; 43_program_erase_read.md rules R192, R199, R213). That `decodeTableWord` reads a byte as a host command before
it reads it as a frame (0x01 names IDENTIFY and WRSR alike), and so 0x9F and 0x70 as frames, is the model's choice (log
entry 4, DESIGN CHOICE). The spec marks as its own decisions D1, D5, D6, D12, D36, D41 in these rules (log entry 24). -/
def Obligations.WordsDecodeAsWritten : Prop :=
  decodeTableWord 8 0x01 = some (.identify 0 0) ∧ decodeTableWord 8 0x08 = some (.reprobe 0 0)
  ∧ decodeTableWord 8 0x9F = some .rdid ∧ decodeTableWord 8 0x70 = some .rdfsr
  ∧ decodeBytes [0x02, 0, 0, 0, 0, 0, 0, 0, 0x00, 0x10, 0, 0, 0, 0, 0, 0, 0x10, 0, 0, 0, 0, 0, 0, 0]
      = .ok (.read 0x1000 16, [])
  ∧ decodeFrame Config.p0 { addrWidth := 3, dummyBytes := 1 } .readFast
      { cmd := [0x0B, 0x00, 0x10, 0x00, 0x00], tx := none, rxn := some 16 } = .ok (.readFast 0x1000 16)
  ∧ decodeFrame Config.p0 { addrWidth := 4, dummyBytes := 1 } .pp
      { cmd := [0x02, 0x00, 0x00, 0x01, 0xF0], tx := some [0xAA], rxn := none } = .ok (.pp 0x1F0 [0xAA])
  ∧ decodeFrame Config.p0 { addrWidth := 3, dummyBytes := 1 } .se
      { cmd := [0xD8, 0x02, 0x00, 0x00], tx := none, rxn := none } = .ok (.se 0x20000)

/-- Decoding a serialised host command gives back the instruction it was encoded from, and the bytes after it
(30_encoding.md rules R91, R92). That the buffer of a WRITE stands after the record's three words is the model's choice
(log entry 30, DESIGN CHOICE). The spec marks as its own decisions D1, D5, D6, D36, D41 in these rules (log entry 24). -/
def Obligations.HostBytesRoundTrip : Prop :=
  (∀ i : Instr, (encodeBytes i).isSome = i.isHost)
  ∧ ∀ (g : FrameGeom) (i : Instr) (bs rest : List Byte), i.wf g = true → encodeBytes i = some bs →
      decodeBytes (bs ++ rest) = .ok (i, rest)

/-- Decoding the frame of a well-formed frame instruction under its symbol gives the instruction back, every operand
included (30_encoding.md rules R100 to R105). The spec marks as its own decisions D9, D11, D12 in these rules (log entry
24). -/
def Obligations.FrameRoundTrip : Prop :=
  ∀ (c : Config) (g : FrameGeom) (i : Instr) (k : FrameKind), i.kind = some k → i.wf g = true →
      ∃ x, encodeFrame c g i = some x ∧ decodeFrame c g k x = .ok i

/-- A record decodes by `code` alone (30_encoding.md rules R93, R96): exactly the codes 1 to 9 name a command (a WRITE's
buffer having its length, rule R91), and the instruction carries the record's operands. That a buffer beside
another command is ignored is the model's choice (log entry 29). The spec marks as its own decisions D1, D7, D36, D41 in
these rules (log entry 24). -/
def Obligations.RecordDecodesByCode : Prop :=
  ∀ r : CommandRecord, ((∃ i, decodeRecord r = .ok i) ↔ 1 ≤ r.code.toNat ∧ r.code.toNat ≤ 9 ∧ r.ok)
    ∧ (∀ i, decodeRecord r = .ok i → encodeRecord i =
        some { word0 := r.code.setWidth 64, offset := r.offset, len := r.len,
               wbuf := if r.code = 0x03 then r.wbuf else [] })
    ∧ (¬ (1 ≤ r.code.toNat ∧ r.code.toNat ≤ 9) → decodeRecord r = .error (.reservedCode r.code))

/-- The layout of a frame (30_encoding.md rules R100, R101, R103, R110; 20_memory.md rule R67): it begins with its opcode
byte, has the length of its class, and carries at most one payload; its address part, where it has one, is the `w` bytes
after the opcode, most significant first: byte `k` is `addr[8(w-k)-1 : 8(w-k)-8]`, so a fitting address is not cut short.
The spec marks as its own decision D9 in these rules (log entry 24). -/
def Obligations.FrameLayout : Prop :=
  (∀ (c : Config) (g : FrameGeom) (i : Instr) (k : FrameKind) (x : Xfer), i.kind = some k → encodeFrame c g i = some x →
    x.cmd.length = k.frameLength g ∧ (x.tx = none ∨ x.rxn = none)
    ∧ (∃ op rest, x.cmd = op :: rest ∧ (k.opcode c.opc = some op ∨ k = .rdvr ∨ k = .wrvr))
    ∧ ∀ a, i.address = some a → (x.cmd.drop 1).take g.addrWidth = addressPart g a)
  ∧ ∀ (g : FrameGeom) (a : Word64), (addressPart g a).length = g.addrWidth
    ∧ (∀ k, k < g.addrWidth → ∃ b, (addressPart g a)[k]? = some b
        ∧ b.toNat = a.toNat / 256 ^ (g.addrWidth - 1 - k) % 256)
    ∧ (addrFits g a = true → natOfBE (addressPart g a) = a.toNat)

/-! ## The step -/

/-- The step of `S_IDLE` takes the record at the port and runs the command it decodes to; with no record nothing changes
(46_sequencer.md rules R277, R279). That a record of a command other than WRITE that carries a buffer decodes, and runs
its command without it, is the model's choice (log entry 29, DESIGN CHOICE, unsafe). The spec marks as its own decision
D35 in these rules (log entry 24). -/
def Obligations.StepRunsCommand : Prop :=
  ∀ s : State, s.cfg.wf = true → s.env.resetLine = false → s.q.fsm = .idle →
    (s.env.port = [] → step s = .next s)
    ∧ ∀ r rest i, s.env.port = r :: rest → decodeRecord r = .ok i →
        step s = exec i { s with env := { s.env with port := rest } }

/-- The step of any other rest state runs the frame that state issues; a windowed READ's step is its copy
(46_sequencer.md rule R277). That a register without a value keeps its old one is the model's choice (log entry 17). The
spec marks as its own decision D35 in these rules (log entry 24). -/
def Obligations.StepRunsFrame : Prop :=
  ∀ s : State, s.cfg.wf = true → s.env.resetLine = false → s.q.fsm ≠ .idle →
    (∀ i, s.fetchFrame = some i → step s = exec i s)
    ∧ (s.q.fsm = .rdWin → step s = .next
        { s.afterWindow with
          rsp := { s.rsp with status := .ok, count := s.q.len, rbuf := s.windowBytes s.q.off.toNat s.q.len.toNat }
          q := { s.q with fsm := .idle } })

/-- The frame each rest state issues, with its operands (46_sequencer.md rules R276, R282 to R288; 45_quad_negotiator.md
rule R264). The spec marks as its own decisions D16, D35 in these rules (log entry 24). -/
def Obligations.FrameOfEachState : Prop :=
  ∀ s : State,
    (s.q.fsm = .idle ∨ s.q.fsm = .rdWin → s.fetchFrame = none)
    ∧ (s.q.fsm = .idRdid → s.fetchFrame = some .rdid)
    ∧ (s.q.fsm = .qnRdsr ∨ s.q.fsm = .lqRdsr ∨ s.q.fsm = .lkRdsr ∨ s.q.fsm = .ulRdsr ∨ s.q.fsm = .ilRdsr
        ∨ s.q.fsm = .plRdsr → s.fetchFrame = some .rdsr)
    ∧ (s.q.fsm = .plRdfsr → s.fetchFrame = some .rdfsr)
    ∧ (s.q.fsm = .qnWren ∨ s.q.fsm = .wrWren ∨ s.q.fsm = .bwWren ∨ s.q.fsm = .erWren ∨ s.q.fsm = .lkWren
        ∨ s.q.fsm = .ulWren → s.fetchFrame = some .wren)
    ∧ (s.q.fsm = .bwWrdi ∨ s.q.fsm = .erWrdi → s.fetchFrame = some .wrdi)
    ∧ (s.q.fsm = .lkWrsr ∨ s.q.fsm = .ulWrsr → s.fetchFrame = some (.wrsr [s.q.srNew]))
    ∧ (∀ v, s.quadProc = some v → (s.q.fsm = .qnRd1 ∨ s.q.fsm = .qnRd2 → s.fetchFrame = some (.rdvr v.rdOp))
        ∧ (s.q.fsm = .qnWr → v.payload = .regOnly → s.fetchFrame = some (.wrvr v.wrOp [s.q.reg ||| v.bit]))
        ∧ (s.q.fsm = .qnWr → v.payload = .srThenReg →
            s.fetchFrame = some (.wrvr v.wrOp [s.q.srOld, s.q.reg ||| v.bit])))
    ∧ (s.q.fsm = .rdXfer → s.fetchFrame = some (match s.dev.readOpcode with
        | .read => .readFrame s.q.off s.q.len
        | .readFast => .readFast s.q.off s.q.len
        | .readDual => .readDual s.q.off s.q.len
        | .readQuad => .readQuad s.q.off s.q.len
        | .readQuadIo => .readQuadIo s.q.off s.q.len))
    ∧ (s.q.fsm = .wrProg → s.fetchFrame = some (
        let data := (s.wbuf.drop s.q.doneBytes.toNat).take s.q.chunk.toNat
        match s.dev.programOpcode with
        | .pp => .pp s.q.cur data
        | .ppQuad => .ppQuad s.q.cur data))
    ∧ (s.q.fsm = .bwProg → s.fetchFrame = some (
        let data := (s.wbuf.drop s.q.doneBytes.toNat).take s.q.chunk.toNat
        if s.q.chunk = 1 then .bp s.q.cur data else .aaiWp s.q.cur data))
    ∧ (s.q.fsm = .erErase → s.fetchFrame = some (match s.dev.eraseOpcode with
        | .se => .se s.q.cur
        | .be4k => .be4k s.q.cur))

/-- What one exchange changes (10_state.md rules R36, R40; 20_memory.md rules R62, R63): the frame stands in
`dev.cmdbuf`, the event enters the history, the transport moves on; nothing else. The answer holds at most the bytes
asked for; under the oracle it is the next of the model's list, cut to them (log entries 2, 13). The spec marks as its
own decisions D32, D35 in these rules (log entry 24). -/
def Obligations.ExchangeEffect : Prop :=
  ∀ (s : State) (i : Instr) (x : Xfer), encodeFrame s.cfg s.geom i = some x →
    s.sent i = { s with dev := { s.dev with cmdbuf := x.cmd }, hist := s.hist ++ [.xfer x (s.reply i)],
                        env := (s.sent i).env }
    ∧ (s.sent i).env = { s.env with transport := (s.sent i).env.transport, answers := (s.sent i).env.answers,
                                    nXfer := s.env.nXfer + 1 }
    ∧ (answerBytes (s.reply i)).length ≤ x.rxn.getD 0
    ∧ (s.env.transport = .oracle → (s.sent i).env.transport = .oracle
        ∧ ∀ a rest, s.env.answers = a :: rest → s.reply i = clipAnswer x.rxn a ∧ (s.sent i).env.answers = rest)

/-- Every step of a rest state other than `S_IDLE` and `S_RD_WIN` issues exactly its one exchange and takes at most one
clock sample after it; the other two issue none (46_sequencer.md rules R277, R278). The spec marks as its own decision
D35 in these rules (log entry 24). -/
def Obligations.OneExchangePerStep : Prop :=
  ∀ s t : State, step s = .next t → s.env.resetLine = false →
    (s.q.fsm = .idle ∨ s.q.fsm = .rdWin → t.hist = s.hist)
    ∧ (s.q.fsm ≠ .idle → s.q.fsm ≠ .rdWin → ∃ i x, s.fetchFrame = some i ∧ encodeFrame s.cfg s.geom i = some x
        ∧ (t.hist = s.hist ++ [.xfer x (s.reply i)] ∨ t.hist = s.hist ++ [.xfer x (s.reply i), .clock s.now]))

/-- While a command runs its operands stay, the record at the port is not taken and no rule writes the configuration
(10_state.md rule R27; 30_encoding.md rule R90; 46_sequencer.md rule R291). The other two clauses are the model's: a
command executed then has no effect (93_implementation_defined.md U16; log entry 12), and a frame executed where no frame
is issued is its exchange and nothing else (log entry 9). That a register without a value keeps its old one is the
model's choice (log entry 17). The spec marks as its own decisions D1, D40 in these rules (log entry 24). -/
def Obligations.BusyKeepsCommand : Prop :=
  (∀ s t : State, step s = .next t → s.env.resetLine = false → s.q.fsm ≠ .idle →
    t.q.op = s.q.op ∧ t.q.off = s.q.off ∧ t.q.len = s.q.len ∧ t.wbuf = s.wbuf ∧ t.env.port = s.env.port ∧ t.cfg = s.cfg)
  ∧ (∀ (s : State) (i : Instr), i.isHost = true → s.q.fsm ≠ .idle → exec i s = .next s)
  ∧ ∀ (s : State) (i : Instr), i.isHost = false → s.q.fsm = .idle ∨ s.q.fsm = .rdWin → exec i s = .next (s.sent i)

/-- `dev` is written only by IDENTIFY and REPROBE (10_state.md rules R24, R30): outside the step that reads the
identification, a step changes no field but the flag, the window and the frame buffer; the flag rises only at the end of
IDENTIFY and falls only at a REPROBE; and the window is released only with it. That a register without a value keeps its
old one is the model's choice (log entry 17). -/
def Obligations.DeviceWrittenByIdentification : Prop :=
  ∀ s t : State, step s = .next t → s.env.resetLine = false →
    (s.q.fsm ≠ .idRdid → t.dev =
      { s.dev with identified := t.dev.identified, window := t.dev.window, cmdbuf := t.dev.cmdbuf })
    ∧ (s.dev.identified = false → t.dev.identified = true → s.q.fsm = .idRdid ∨ s.q.fsm = .qnRd2)
    ∧ (s.q.fsm ≠ .idRdid → (s.dev.identified = true ∧ t.dev.identified = false ∨ t.dev.window ≠ s.dev.window) →
        ∃ r rest, s.q.fsm = .idle ∧ s.env.port = r :: rest ∧ r.code = 0x08)

/-- `rsp` keeps its status, count, cause, geometry and read bytes while a command runs (10_state.md rule R29); only a
latched error writes its failure fields before the end (46_sequencer.md rule R285). That a register without a value keeps
its old one is the model's choice (log entry 17). The spec marks as its own decision D1 in these rules (log entry 24). -/
def Obligations.ResponseHeldWhileRunning : Prop :=
  ∀ s t : State, step s = .next t → s.env.resetLine = false → s.q.fsm ≠ .idle → t.q.fsm ≠ .idle →
    t.rsp = { s.rsp with failOff := t.rsp.failOff, failLen := t.rsp.failLen }
    ∧ ((t.rsp.failOff ≠ s.rsp.failOff ∨ t.rsp.failLen ≠ s.rsp.failLen) →
        (t.q.fsm = .bwWrdi ∨ t.q.fsm = .erWrdi) ∧ (t.q.err = .transportError ∨ t.q.err = .timeout))

/-- A record with a reserved code is accepted and answered `Unsupported` at once (30_encoding.md rule R96), whatever
buffer it carries: that is the model's choice (log entry 29, DESIGN CHOICE, unsafe), for rule R91 calls the buffer absent
there. That a register without a value keeps its old one is the model's choice (log entry 17). The spec marks as its own
decisions D1, D7, D36, D41 in these rules (log entry 24). -/
def Obligations.ReservedCodeUnsupported : Prop :=
  ∀ (s : State) (r : CommandRecord) (rest : List CommandRecord), s.cfg.wf = true → s.env.resetLine = false →
      s.q.fsm = .idle → s.env.port = r :: rest →
    (r.code = 0x00 ∨ 0x0A ≤ r.code.toNat) →
    step s = .next { s with
      q := { s.q with op := r.code, off := r.offset, len := r.len }
      rsp := s.rsp.error .unsupported 0 r.offset r.len
      env := { s.env with port := rest } }

/-- The two refusals. A configuration that breaks a constraint is refused (00_scope.md rule R7), and these are the
constraints. Among them are the types of 10_state.md rule R21, of `ADDR_WIDTH_OF` and of 45_quad_negotiator.md rule R261
(log entry 21, DEDUCED). A WRITE record without exactly `len`
buffer bytes is no record of the format (30_encoding.md rule R91); refusing it is the model's form of 92_eei_decisions.md
D41 (log entry 11). The spec marks as its own decisions D1, D10, D16, D23, D36, D41 in these rules (log entry 24). -/
def Obligations.RefusalsAndConstraints : Prop :=
  (∀ s, s.cfg.wf = false → step s = .refused .badConfiguration)
  ∧ (∀ c : Config, c.wf = true ↔
      (∀ d ∈ c.chipTable, (1 ≤ d.idLen ∧ d.idLen ≤ c.idMaxLen) ∧ 1 ≤ d.sectorSize ∧ 1 ≤ d.sectorCount ∧ 1 ≤ d.pageSize
        ∧ d.sectorSize * d.sectorCount < 2 ^ 64 ∧ d.sectorSize * d.sectorCount ≤ 2 ^ (8 * c.addrWidth d)
        ∧ (d.flags.sect4k = true → c.use4k = true → d.sectorSize % 4096 = 0)
        ∧ d.idLen ≤ d.id.length ∧ (1 ≤ c.addrWidth d ∧ c.addrWidth d ≤ 8))
      ∧ (∀ m, c.maxWrite = some m → 1 ≤ m) ∧ c.tProg < c.tErase
      ∧ c.srBpMask = 7#8 <<< c.srBpShift ∧ c.srBpShift ≤ 5 ∧ 1 ≤ c.idMaxLen
      ∧ ∀ e ∈ c.quadVendors, ∃ k < 8, e.2.bit = 1#8 <<< k)
  ∧ ∀ (s : State) (r : CommandRecord) (rest : List CommandRecord), s.cfg.wf = true → s.env.resetLine = false →
      s.q.fsm = .idle → s.env.port = r :: rest → r.code = 0x03 → r.wbuf.length ≠ r.len.toNat →
      step s = .refused .malformedRecord

/-- A reset that arrives between two steps abandons the command (70_reset_and_hazards.md rules R340, R341, R343): the
controller is in its empty state, no exchange is issued, the environment (the chip among it) is untouched. That the
history starts afresh is the model's (log entry 18). The spec marks as its own decision D4 in these rules (log entry
24). -/
def Obligations.ResetAbandonsCommand : Prop :=
  ∀ s : State, s.cfg.wf = true → s.env.resetLine = true →
    ∃ t, step s = .next t ∧ t.dev.identified = false ∧ t.q.fsm = .idle ∧ t.hist = [] ∧ t.cfg = s.cfg
      ∧ t.env = { s.env with resetLine := false }

/-! ## The invariant -/

/-- The invariant holds right after reset, under every configuration that meets rule R7, and what reset leaves
(10_state.md rules R50, R51): `dev.identified = 0`, `q.FSM = S_IDLE`, the history empty. The invariant's clauses `idbuf`
(the length of `q.IDBUF`) and `reserved` (`q.ERR` and `rsp.status` are not `WriteProtected`) hold here only by the reset
values that the model chose (log entry 3, DESIGN CHOICE, unsafe): rule R51 gives these registers none. The configuration
of `State.reset` is the model's choice too (log entry 1, DESIGN CHOICE). The spec marks as its own decisions D4, D10, D23
in these rules (log entry 24). -/
def Obligations.ResetInvariant : Prop :=
  State.reset.Inv ∧ (∀ c, c.wf = true → (State.resetWith c Env.silent).Inv)
  ∧ State.reset.dev.identified = false ∧ State.reset.q.fsm = .idle ∧ State.reset.hist = []

/-- Every step keeps the invariant `State.Inv` of Safety.lean: the invariants of an identified device (10_state.md rule
R35; 41_identification.md rule R165), the loops' (43_program_erase_read.md rules R195, R198), what a rest state stands for
(46_sequencer.md rule R276; 45_quad_negotiator.md rule R262), the checked range, the reserved code and the clock
(60_exceptions.md rules R315, R323, R325), the legal exchanges (30_encoding.md rule R110). Three clauses rest on the
model's choices. `derived` reads `q.IDBUF` after the command that wrote it has ended, where it has no value by 10_state.md
rules R27 and R50 and 46_sequencer.md rule R280: that it keeps the identification bytes is log entry 17 (DESIGN CHOICE,
unsafe). `idbuf` and `reserved` after a step that takes a reset hold by the reset values of log entry 3 (DESIGN CHOICE,
unsafe). `portOk` admits records that only log entry 29 (DESIGN CHOICE, unsafe) takes, as in `StepIsTotal`. -/
def Obligations.StepKeepsInvariant : Prop :=
  ∀ s t : State, s.Inv → s.portOk → step s = .next t → t.Inv

/-- In every state the invariant admits, whatever the inputs of the right shape, the step answers a next state
(46_sequencer.md rule R278; 20_memory.md rule R64): no fault, no refusal, never stuck. `portOk` admits a record of a
command other than WRITE that carries a buffer, which is no record of format H (30_encoding.md rule R91 calls the buffer
absent): that such a record is taken and not refused is the model's choice (log entry 29, DESIGN CHOICE, unsafe). The
spec marks as its own decision D35 in these rules (log entry 24). -/
def Obligations.StepIsTotal : Prop :=
  ∀ s : State, s.Inv → s.portOk → ∃ t, step s = .next t

/-- The invariants of an identified `dev` (10_state.md rule R35): the capacity is a multiple of the erase unit, every
address fits the address bytes, the dummy cycles are whole bytes, and plain read is the one without dummy cycles,
provided the four read opcode bytes are distinct; that the erase unit is a multiple of the page is not an invariant. -/
def Obligations.IdentifiedDeviceInvariants : Prop :=
  (∀ s : State, s.cfg.wf = true → s.dev.identified = true → s.devDerived →
    s.dev.capacity.toNat % s.dev.eraseSize.toNat = 0
    ∧ s.dev.capacity.toNat ≤ 2 ^ (8 * s.dev.addrWidth.toNat)
    ∧ s.dev.readDummy.toNat % 8 = 0
    ∧ ([s.cfg.opc.read, s.cfg.opc.readFast, s.cfg.opc.readDual, s.cfg.opc.readQuad].Nodup →
        (s.readOpcodeByte = s.cfg.opc.read ↔ s.dev.readDummy = 0)))
  ∧ ∃ s : State, s.cfg.wf = true ∧ s.dev.identified = true ∧ s.devDerived
      ∧ s.dev.eraseSize.toNat % s.dev.pageSize.toNat ≠ 0

/-- Every frame a run issues is well-formed under the geometry in force: no address is cut short (20_memory.md rule R61),
no payload is empty (rule R75), and so it decodes to the instruction executed. -/
def Obligations.IssuedFramesWellFormed : Prop :=
  ∀ (s : State) (i : Instr), s.Inv → s.fetchFrame = some i → i.wf s.geom = true

/-- Every program frame of the page loop stays inside one program unit (43_program_erase_read.md rule R198; 20_memory.md
rule R69) and inside the request, and carries the bytes of the buffer that belong at its address. -/
def Obligations.ProgramFrameWithinPage : Prop :=
  ∀ (s : State) (addr : Word64) (data : List Byte), s.Inv →
      s.fetchFrame = some (.pp addr data) ∨ s.fetchFrame = some (.ppQuad addr data) →
    addr.toNat % s.dev.pageSize.toNat + data.length ≤ s.dev.pageSize.toNat
    ∧ 1 ≤ data.length ∧ s.q.off.toNat ≤ addr.toNat
    ∧ addr.toNat + data.length ≤ s.q.off.toNat + s.q.len.toNat
    ∧ data = (s.wbuf.drop (addr.toNat - s.q.off.toNat)).take data.length
    ∧ ∀ m, s.cfg.maxWrite = some m → data.length ≤ m

/-! ## The order of checks -/

/-- `NoDevice` comes before anything else (60_exceptions.md rules R312, R316): on an unidentified device every command
but IDENTIFY and REPROBE ends at once with it, whatever its operands, the zero-length ones too. That GEOMETRY,
which uses no operands, reports the record's is log entry 25 (DEDUCED). That a register without a
value keeps its old one is the model's choice (log entry 17). The spec marks as its own decisions D3, D8 in these rules
(log entry 24). -/
def Obligations.NoDeviceFirst : Prop :=
  ∀ (s : State) (i : Instr), s.q.fsm = .idle → s.dev.identified = false →
    (∀ off len, arrayCommand i = some (off, len) → ∃ t, exec i s = .next t ∧ s.endedAtOnce t .noDevice off len)
    ∧ (∀ off len, i = .geometry off len → ∃ t, exec i s = .next t ∧ s.endedAtOnce t .noDevice off len)

/-- A zero-length command succeeds at once at any offset, on an identified device (60_exceptions.md rule R314). The spec
marks as its own decision D8 in these rules (log entry 24). -/
def Obligations.ZeroLengthSucceeds : Prop :=
  ∀ (s : State) (i : Instr) (off : Word64), s.q.fsm = .idle → s.dev.identified = true → arrayCommand i = some (off, 0) →
    ∃ t, exec i s = .next t ∧ s.endedAtOnce t .ok off 0

/-- An out-of-range request is refused, never clamped (60_exceptions.md rule R313): `offset > capacity` or
`len > capacity - offset`. -/
def Obligations.OutOfRangeRefused : Prop :=
  ∀ (s : State) (i : Instr) (off len : Word64), s.q.fsm = .idle → s.dev.identified = true →
      arrayCommand i = some (off, len) → len ≠ 0 →
    (s.dev.capacity.toNat < off.toNat ∨ s.dev.capacity.toNat - off.toNat < len.toNat) →
    ∃ t, exec i s = .next t ∧ s.endedAtOnce t .invalidArgument off len

/-- An ERASE of a partial unit is refused before the lock query and before any exchange (43_program_erase_read.md rule
R209). That a register without a value keeps its old one is the model's choice (log entry 17). -/
def Obligations.PartialUnitEraseRefused : Prop :=
  ∀ (s : State) (off len : Word64), s.q.fsm = .idle → s.dev.identified = true → len ≠ 0 →
      off.toNat + len.toNat ≤ s.dev.capacity.toNat →
    len.toNat % s.dev.eraseSize.toNat ≠ 0 →
    exec (.erase off len) s = .next { s with
      q := { s.q with op := 0x04, off := off, len := len, fsm := .idle }
      rsp := s.rsp.error .invalidArgument 0 off len }

/-- LOCK, UNLOCK and IS_LOCKED on a chip without protection bits end with `Unsupported`, after `Precheck` and with no
exchange (44_protection_codec.md rule R254). The spec marks as its own decisions D8, D38 in these rules (log entry
24). -/
def Obligations.NoProtectionBitsUnsupported : Prop :=
  ∀ (s : State) (i : Instr) (off len : Word64), s.q.fsm = .idle → s.dev.identified = true → s.dev.protVariant = .none →
    i = .lock off len ∨ i = .unlock off len ∨ i = .isLocked off len →
    len ≠ 0 → off.toNat + len.toNat ≤ s.dev.capacity.toNat →
    ∃ t, exec i s = .next t ∧ s.endedAtOnce t .unsupported off len

/-! ## Host commands -/

/-- IDENTIFY on an identified device succeeds with no exchange and changes nothing derived; on another, whatever an
earlier attempt did, it goes to read the identification (41_identification.md rules R150, R166). That its operands are
loaded is 46_sequencer.md rule R279 (92_eei_decisions.md D35), for a command that uses none the model's reading of it
(log entry 25, DEDUCED). That a register without a value keeps its old one is the model's choice (log entry 17). -/
def Obligations.IdentifyAccepted : Prop :=
  ∀ (s : State) (off len : Word64), s.q.fsm = .idle →
    exec (.identify off len) s = .next (
      if s.dev.identified = true then
        { s with q := { s.q with op := 0x01, off := off, len := len, fsm := .idle }, rsp := s.rsp.success 0 }
      else { s with q := { s.q with op := 0x01, off := off, len := len, fsm := .idRdid } })

/-- GEOMETRY on an identified device answers the three sizes (41_identification.md rule R172). That its operands are
loaded is 46_sequencer.md rule R279 (92_eei_decisions.md D35), for a command that uses none the model's reading of it
(log entry 25, DEDUCED). That a register without a value keeps its old one is the model's choice (log entry 17). The spec
marks as its own decision D3 in these rules (log entry 24). -/
def Obligations.GeometryAnswers : Prop :=
  ∀ (s : State) (off len : Word64), s.q.fsm = .idle → s.dev.identified = true →
    exec (.geometry off len) s = .next { s with
      q := { s.q with op := 0x07, off := off, len := len, fsm := .idle }
      rsp := { s.rsp with status := .ok, count := 0, totalSize := s.dev.capacity, eraseUnitSize := s.dev.eraseSize,
                          programUnitSize := s.dev.pageSize } }

/-- REPROBE clears the flag and releases the window, in either identification state, with no exchange
(41_identification.md rule R170). That its operands are loaded is 46_sequencer.md rule R279 (92_eei_decisions.md D35),
for a command that uses none the model's reading of it (log entry 25, DEDUCED). That every other field of `dev` keeps
its value, where the rule says that it holds none afterwards, is the model's choice (log entry 17, DESIGN CHOICE,
unsafe), and so it is for the scratch registers. The spec marks as its own decision D5 in these rules (log entry 24). -/
def Obligations.ReprobeForgets : Prop :=
  ∀ (s : State) (off len : Word64), s.q.fsm = .idle →
    exec (.reprobe off len) s = .next { s with
      dev := { s.dev with identified := false, window := false }
      q := { s.q with op := 0x08, off := off, len := len, fsm := .idle }
      rsp := s.rsp.success 0 }

/-- READ of a range inside the device goes to its one transfer: the window's copy where there is a window, else the read
frame (43_program_erase_read.md rules R191, R192). That a register without a value keeps its old one is the model's
choice (log entry 17). -/
def Obligations.ReadAccepted : Prop :=
  ∀ (s : State) (off len : Word64), s.q.fsm = .idle → s.dev.identified = true → len ≠ 0 →
    off.toNat + len.toNat ≤ s.dev.capacity.toNat →
    exec (.read off len) s = .next { s with
      q := { s.q with op := 0x02, off := off, len := len, fsm := if s.dev.window then .rdWin else .rdXfer } }

/-- WRITE of a range inside the device (43_program_erase_read.md rules R194, R195; 44_protection_codec.md rule R236):
under `CODEC` with protection bits the lock query's status read comes first; with no lock policy in force the loop
starts; under `EXTERNAL` the collaborator's answer decides, the next of the model's list or, with the list used up, the
free answer `Config.lockAnswer` (log entry 2). That a register without a value keeps its old one is the model's choice
(log entry 17). The spec marks as its own decisions D21, D23 in these rules (log entry 24). -/
def Obligations.WriteAccepted : Prop :=
  ∀ (s : State) (off len : Word64) (buf : List Byte), s.q.fsm = .idle → s.dev.identified = true → len ≠ 0 →
    off.toNat + len.toNat ≤ s.dev.capacity.toNat →
    (s.cfg.lockQuery = .codec → s.dev.protVariant = .bp → exec (.write off len buf) s = .next { s with
      wbuf := buf, q := { s.q with op := 0x03, off := off, len := len, fsm := .lqRdsr } })
    ∧ (s.cfg.lockQuery = .absent ∨ (s.cfg.lockQuery = .codec ∧ s.dev.protVariant = .none) →
      exec (.write off len buf) s = .next { s with wbuf := buf, q := s.writeStart off len })
    ∧ (s.cfg.lockQuery = .external →
      exec (.write off len buf) s = .next (
        let u := { s with wbuf := buf,
                          env := { s.env with lockAnswers := s.env.lockAnswers.tail, nLock := s.env.nLock + 1 } }
        if s.env.lockAnswers.head?.getD (Config.lockAnswer s.env.nLock off len) = some true then
          { u with q := { s.q with op := 0x03, off := off, len := len, fsm := .idle },
                   rsp := s.rsp.error .locked 0 off len }
        else { u with q := s.writeStart off len }))

/-- ERASE of whole units inside the device (43_program_erase_read.md rule R208; 44_protection_codec.md rule R236), with
the lock query of WRITE in each of its three wirings (log entry 2 for the answers under `EXTERNAL`). That a register
without a value keeps its old one is the model's choice (log entry 17). The spec marks as its own decision D21 in these
rules (log entry 24). -/
def Obligations.EraseAccepted : Prop :=
  ∀ (s : State) (off len : Word64), s.q.fsm = .idle → s.dev.identified = true → len ≠ 0 →
    off.toNat + len.toNat ≤ s.dev.capacity.toNat → len.toNat % s.dev.eraseSize.toNat = 0 →
    (s.cfg.lockQuery = .codec → s.dev.protVariant = .bp → exec (.erase off len) s = .next { s with
      q := { s.q with op := 0x04, off := off, len := len, fsm := .lqRdsr } })
    ∧ (s.cfg.lockQuery = .absent ∨ (s.cfg.lockQuery = .codec ∧ s.dev.protVariant = .none) →
      exec (.erase off len) s = .next { s with q := s.eraseStart off len })
    ∧ (s.cfg.lockQuery = .external →
      exec (.erase off len) s = .next (
        let u := { s with env := { s.env with lockAnswers := s.env.lockAnswers.tail, nLock := s.env.nLock + 1 } }
        if s.env.lockAnswers.head?.getD (Config.lockAnswer s.env.nLock off len) = some true then
          { u with q := { s.q with op := 0x04, off := off, len := len, fsm := .idle },
                   rsp := s.rsp.error .locked 0 off len }
        else { u with q := s.eraseStart off len }))

/-- LOCK, UNLOCK and IS_LOCKED of a range inside a device with protection bits go to their status read
(44_protection_codec.md rules R235, R240, R245). That a register without a value keeps its old one is the model's choice
(log entry 17). The spec marks as its own decision D6 in these rules (log entry 24). -/
def Obligations.ProtectionCommandsAccepted : Prop :=
  ∀ (s : State) (off len : Word64), s.q.fsm = .idle → s.dev.identified = true → len ≠ 0 →
    off.toNat + len.toNat ≤ s.dev.capacity.toNat → s.dev.protVariant = .bp →
    exec (.lock off len) s = .next { s with q := { s.q with op := 0x05, off := off, len := len, fsm := .lkRdsr } }
    ∧ exec (.unlock off len) s = .next { s with q := { s.q with op := 0x06, off := off, len := len, fsm := .ulRdsr } }
    ∧ exec (.isLocked off len) s = .next { s with q := { s.q with op := 0x09, off := off, len := len, fsm := .ilRdsr } }

/-! ## Identification -/

/-- The scan takes the least index whose descriptor matches, over its own prefix length (41_identification.md rules R152,
R153). -/
def Obligations.FirstMatchIsLeast : Prop :=
  ∀ (table : List ChipDescriptor) r,
    (∀ i d, firstMatchFrom 0 table r = some (i, d) ↔
      table[i]? = some d ∧ (d.idLen ≤ r.length ∧ r.take d.idLen = d.id.take d.idLen)
      ∧ ∀ j d', j < i → table[j]? = some d' → ¬ (d'.idLen ≤ r.length ∧ r.take d'.idLen = d'.id.take d'.idLen))
    ∧ (firstMatchFrom 0 table r = none ↔
      ∀ d ∈ table, ¬ (d.idLen ≤ r.length ∧ r.take d.idLen = d.id.take d.idLen))

/-- The opcode policy and what is copied from the descriptor (41_identification.md rules R155, R156, R159, R162, R164):
the read conditions in their order, the first that holds deciding; the program opcode; when the negotiation runs; for a
descriptor that meets rule R7, the native sector size and the capacity; the three variants. -/
def Obligations.OpcodePolicy : Prop :=
  ∀ (c : Config) (i : Nat) (d : ChipDescriptor) (r : List Byte) (old : Dev), let v := deriveDev c i d r old
    (v.readMode = .slow → v.readOpcode = .read)
    ∧ (v.readMode = .quad → d.flags.rdQuad = true → v.readOpcode = .readQuad)
    ∧ (v.readMode = .dual → d.flags.rdDual = true → v.readOpcode = .readDual)
    ∧ (v.readMode ≠ .slow → ¬ (v.readMode = .quad ∧ d.flags.rdQuad = true) →
        ¬ (v.readMode = .dual ∧ d.flags.rdDual = true) → v.readOpcode = .readFast)
    ∧ (v.programOpcode = .ppQuad ↔ v.writeMode = .quad ∧ d.flags.wrQuad = true)
    ∧ (v.quadSelected = true ↔ v.readOpcode = .readQuad ∨ v.programOpcode = .ppQuad)
    ∧ (c.descriptorOk d = true →
        v.sectorSize.toNat = d.sectorSize ∧ v.capacity.toNat = d.sectorSize * d.sectorCount)
    ∧ (v.progVariant = .byte ↔ d.flags.byteProg = true) ∧ (v.protVariant = .bp ↔ d.flags.hasBp = true)
    ∧ v.useFsr = d.flags.useFsr

/-- The derived fields that rest on the spec's own decisions (41_identification.md rules R154, R157, R158, R160, R161,
R163; 92_eei_decisions.md D10, D12, D15, D33, D44 to D46), for a descriptor that meets rule R7: the modes and the dummy
cycles by the symbol selected, the erase unit, the page size with its quirk, the address width, the window; and that
nothing else of `dev` is written. A page size that does not fit the 64 bits of its register (10_state.md rule R25)
leaves a free value of at least 1 there (log entry 6, DESIGN CHOICE). The spec marks as its own decisions D10, D12, D15,
D23, D33, D44, D45, D46 in these rules (log entry 24). -/
def Obligations.GeometryDerivation : Prop :=
  ∀ (c : Config) (i : Nat) (d : ChipDescriptor) (r : List Byte) (old : Dev), c.descriptorOk d = true →
      r.length = c.idMaxLen →
    let v := deriveDev c i d r old
    let ext := 256 * (r.getD 3 0).toNat + (r.getD 4 0).toNat
    let code := 256 * (r.getD 1 0).toNat + (r.getD 2 0).toNat
    let page := if 5 ≤ c.idMaxLen ∧ ext = c.pageQuirkExt.toNat ∧ code ≠ c.pageQuirkExcept.1.toNat
      ∧ code ≠ c.pageQuirkExcept.2.toNat then 2 * d.pageSize else d.pageSize
    v.desc = i ∧ v.readMode = c.rxMode ∧ v.writeMode = c.txMode
    ∧ v.readDummy = (if v.readOpcode = .readQuadIo then 16 else if v.readOpcode = .read then 0 else 8)
    ∧ v.addrWidth.toNat = c.addrWidth d
    ∧ (page < 2 ^ 64 → v.pageSize.toNat = page) ∧ 1 ≤ v.pageSize.toNat
    ∧ (d.flags.sect4k = true ∧ c.use4k = true → v.eraseOpcode = .be4k ∧ v.eraseSize = 4096)
    ∧ (¬ (d.flags.sect4k = true ∧ c.use4k = true) → v.eraseOpcode = .se ∧ v.eraseSize = v.sectorSize)
    ∧ v.window = c.hasWindow ∧ v.identified = old.identified ∧ v.cmdbuf = old.cmdbuf

/-- Frame RDID, answered in full (41_identification.md rules R150 to R153, R164, R165): the first match's derivation is
written; without a quad opcode the device is identified and the command succeeds; with one the vendor's procedure
starts, or the command ends with `UnsupportedQuadVendor`; without a match it ends with `NotFound` and nothing of `dev`
is written but the frame buffer. That the failure fields are `q.OFF` and `q.LEN` for IDENTIFY too is log entry 25
(DEDUCED). That a register without a value keeps its old one is the model's choice (log entry 17). The spec marks as its
own decision D18 in these rules (log entry 24). -/
def Obligations.RdidIdentifies : Prop :=
  ∀ (s : State) (rx : List Byte), s.q.fsm = .idRdid → s.reply .rdid = .ok rx → s.cfg.idMaxLen ≤ rx.length →
    let u := s.sent .rdid
    (firstMatchFrom 0 s.cfg.chipTable rx = none →
      exec .rdid s = .next { u with q := { s.q with idbuf := rx, fsm := .idle },
                                    rsp := s.rsp.error .notFound 0 s.q.off s.q.len })
    ∧ ∀ i d, firstMatchFrom 0 s.cfg.chipTable rx = some (i, d) →
      let v := deriveDev s.cfg i d rx u.dev
      (v.quadSelected = false →
        exec .rdid s = .next { u with dev := { v with identified := true }, q := { s.q with idbuf := rx, fsm := .idle },
                                      rsp := s.rsp.success 0 })
      ∧ (∀ vid, v.quadSelected = true → rx.head? = some vid → s.cfg.vendorProc vid = none →
        exec .rdid s = .next { u with dev := v, q := { s.q with idbuf := rx, fsm := .idle },
                                      rsp := s.rsp.error .unsupportedQuadVendor 0 s.q.off s.q.len })
      ∧ (∀ vid p, v.quadSelected = true → rx.head? = some vid → s.cfg.vendorProc vid = some p →
        exec .rdid s = .next { u with dev := v, q := { s.q with idbuf := rx, fsm := .qnRd1 } })

/-- Frame RDID, failed or short (40_register_access.md rule R131; 41_identification.md rule R151): `TransportError` with
the transport's cause, or `NotFound`. That a short answer writes neither `q.IDBUF` nor `q.CAUSE` is the model's reading
of 46_sequencer.md rule R282 (log entry 23, DEDUCED), and that IDENTIFY's failure fields are `q.OFF` and `q.LEN` is log
entry 25 (DEDUCED). That a register without a value keeps its old one is the model's
choice (log entry 17). -/
def Obligations.RdidFails : Prop :=
  ∀ s : State, s.q.fsm = .idRdid →
    (∀ c, s.reply .rdid = .err c → exec .rdid s = .next { s.sent .rdid with
      q := { s.q with cause := .transport c, fsm := .idle }
      rsp := s.rsp.transportError (.transport c) 0 s.q.off s.q.len })
    ∧ (∀ rx, s.reply .rdid = .ok rx → rx.length < s.cfg.idMaxLen → exec .rdid s = .next { s.sent .rdid with
      q := { s.q with fsm := .idle }
      rsp := s.rsp.error .notFound 0 s.q.off s.q.len })

/-- Frame RDVR in the quad negotiation (45_quad_negotiator.md rules R262, R266): the first read's register byte is kept
for the payload; confirmation is by the read-back alone: the enable bit set identifies the device, and the flag is the
last write; clear, it ends the command with `ModeNotConfirmed`, at once, and the derived fields keep their values (rule
R165 of 41_identification.md says that they hold none; log entry 17, DESIGN CHOICE). That the failure fields are `q.OFF`
and `q.LEN` for IDENTIFY too is log entry 25 (DEDUCED). The spec marks as its own decisions D16 (the payload kind:
45_quad_negotiator.md rule R264), D35 (the states: 46_sequencer.md rule R282) and D18 (rule R165; log entry 24). -/
def Obligations.ReadBackConfirms : Prop :=
  ∀ (s : State) (v : QuadProc), s.quadProc = some v →
    (∀ op b, s.q.fsm = .qnRd1 → s.reply (.rdvr op) = .ok [b] →
      exec (.rdvr op) s = .next { s.sent (.rdvr op) with
        q := { s.q with reg := b, fsm := if v.payload = .srThenReg then .qnRdsr else .qnWren } })
    ∧ (∀ op b, s.q.fsm = .qnRd2 → s.reply (.rdvr op) = .ok [b] → b &&& v.bit ≠ 0 →
      exec (.rdvr op) s = .next { s.sent (.rdvr op) with
        dev := { (s.sent (.rdvr op)).dev with identified := true }
        q := { s.q with reg := b, fsm := .idle }, rsp := s.rsp.success 0 })
    ∧ (∀ op b, s.q.fsm = .qnRd2 → s.reply (.rdvr op) = .ok [b] → b &&& v.bit = 0 →
      exec (.rdvr op) s = .next { s.sent (.rdvr op) with
        q := { s.q with reg := b, fsm := .idle }, rsp := s.rsp.error .modeNotConfirmed 0 s.q.off s.q.len })

/-! ## Register frames -/

/-- Frame RDSR in the negotiation, in the lock query and in IS_LOCKED (46_sequencer.md rules R282, R283, R287): the byte
is kept for the payload; the range's lock decides between `Locked` and the loop; or it is the answer. That a register
without a value keeps its old one is the model's choice (log entry 17). -/
def Obligations.RdsrQueries : Prop :=
  ∀ (s : State) (b : Byte), s.reply .rdsr = .ok [b] →
    let u := s.sent .rdsr
    let locked := isLockedSr s.cfg s.dev.capacity.toNat b s.q.off.toNat s.q.len.toNat
    (s.q.fsm = .qnRdsr → exec .rdsr s = .next { u with q := { s.q with srOld := b, fsm := .qnWren } })
    ∧ (s.q.fsm = .lqRdsr → locked = true →
      exec .rdsr s = .next { u with q := { s.q with fsm := .idle }, rsp := s.rsp.error .locked 0 s.q.off s.q.len })
    ∧ (s.q.fsm = .lqRdsr → locked = false → s.q.op = 0x03 →
      exec .rdsr s = .next { u with q := s.writeStart s.q.off s.q.len })
    ∧ (s.q.fsm = .lqRdsr → locked = false → s.q.op = 0x04 →
      exec .rdsr s = .next { u with q := s.eraseStart s.q.off s.q.len })
    ∧ (s.q.fsm = .ilRdsr →
      exec .rdsr s = .next { u with q := { s.q with fsm := .idle }, rsp := s.rsp.success (if locked then 1 else 0) })

/-- Frame RDSR in LOCK and UNLOCK (46_sequencer.md rule R287): the codec computes the byte to write, or refuses with
`InvalidArgument` before anything is written. That a register without a value keeps its old one is the model's choice
(log entry 17). -/
def Obligations.RdsrCodec : Prop :=
  ∀ (s : State) (b : Byte), s.reply .rdsr = .ok [b] →
    let u := s.sent .rdsr
    let cap := s.dev.capacity.toNat
    let refused := { u with q := { s.q with srOld := b, fsm := .idle },
                            rsp := s.rsp.error .invalidArgument 0 s.q.off s.q.len }
    (s.q.fsm = .lkRdsr → exec .rdsr s = .next (
      match lockByte s.cfg cap s.q.off.toNat s.q.len.toNat b with
      | some new => { u with q := { s.q with srOld := b, srNew := new, fsm := .lkWren } }
      | none => refused))
    ∧ (s.q.fsm = .ulRdsr → exec .rdsr s = .next (
      match unlockByte s.cfg cap s.dev.eraseSize.toNat s.q.off.toNat s.q.len.toNat b with
      | some new => { u with q := { s.q with srOld := b, srNew := new, fsm := .ulWren } }
      | none => refused))

/-- Frame RDSR in the poller (42_readiness_poller.md rules R180, R182 to R184): with a flag status register it is always
read next; without one, a clear busy bit returns to the caller, and a set one takes a clock sample and times out once the
timeout has passed since the entry sample. That a register without a value keeps its old one is the model's choice (log
entry 17). The spec marks as its own decision D19 in these rules (log entry 24). -/
def Obligations.RdsrPolls : Prop :=
  ∀ (s : State) (b : Byte), s.q.fsm = .plRdsr → s.reply .rdsr = .ok [b] →
    let u := { s.sent .rdsr with q := { s.q with srOld := b } }
    (s.dev.useFsr = true → exec .rdsr s = .next { u with q := { u.q with fsm := .plRdfsr } })
    ∧ (s.dev.useFsr = false → b &&& s.cfg.srWip = 0 → exec .rdsr s = .next u.cont)
    ∧ (s.dev.useFsr = false → b &&& s.cfg.srWip ≠ 0 → s.q.tmo.toNat ≤ s.now - s.q.t0.toNat →
        exec .rdsr s = .next (u.afterSample.failPoll .timeout))
    ∧ (s.dev.useFsr = false → b &&& s.cfg.srWip ≠ 0 → s.now - s.q.t0.toNat < s.q.tmo.toNat →
        exec .rdsr s = .next { u.afterSample with q := { u.q with fsm := .plRdsr } })

/-- Frame RDFSR in the poller: both registers must indicate ready (42_readiness_poller.md rules R182 to R184). That a
register without a value keeps its old one is the model's choice (log entry 17). The spec marks as its own decision D19
in these rules (log entry 24). -/
def Obligations.RdfsrPolls : Prop :=
  ∀ (s : State) (b : Byte), s.q.fsm = .plRdfsr → s.reply .rdfsr = .ok [b] →
    let u := { s.sent .rdfsr with q := { s.q with reg := b } }
    let ready := s.q.srOld &&& s.cfg.srWip = 0 ∧ b &&& s.cfg.fsrReady ≠ 0
    (ready → exec .rdfsr s = .next u.cont)
    ∧ (¬ ready → s.q.tmo.toNat ≤ s.now - s.q.t0.toNat → exec .rdfsr s = .next (u.afterSample.failPoll .timeout))
    ∧ (¬ ready → s.now - s.q.t0.toNat < s.q.tmo.toNat →
        exec .rdfsr s = .next { u.afterSample with q := { u.q with fsm := .plRdsr } })

/-- The poller returns into its caller's code after the call site (46_sequencer.md rules R281, R282, R284 to R286): the
negotiation reads back; a loop counts its chunk or unit and goes on to the next or closes. That a register without a
value keeps its old one is the model's choice (log entry 17). The spec marks as its own decision D35 in these rules (log
entry 24). -/
def Obligations.PollerReturns : Prop :=
  ∀ s : State,
    let cur := s.q.cur + s.q.chunk
    let n := s.q.doneBytes + s.q.chunk
    let left := s.q.len.toNat - n.toNat
    let moved := { s.q with cur := cur, doneBytes := n }
    let ecur := s.q.cur + s.dev.eraseSize
    let en := s.q.doneBytes + s.dev.eraseSize
    (s.q.ret = .qnPoll → s.cont = { s with q := { s.q with fsm := .qnRd2 } })
    ∧ (s.q.ret = .wrPoll → n.toNat < s.q.len.toNat →
        s.cont = { s with q := { moved with chunk := s.chunkAt cur.toNat left, fsm := .wrWren } })
    ∧ (s.q.ret = .wrPoll → ¬ n.toNat < s.q.len.toNat →
        s.cont = { s with q := { moved with fsm := .idle }, rsp := s.rsp.success n })
    ∧ (s.q.ret = .bwPoll → n.toNat < s.q.len.toNat →
        s.cont = { s with q := { moved with chunk := unitAt cur.toNat left, fsm := .bwProg } })
    ∧ (s.q.ret = .bwPoll → ¬ n.toNat < s.q.len.toNat → s.cont = { s with q := { moved with fsm := .bwWrdi } })
    ∧ (s.q.ret = .erPoll → s.cont = { s with q := { s.q with
        cur := ecur, doneBytes := en, fsm := if en.toNat < s.q.len.toNat then .erWren else .erWrdi } })

/-- The poller's failure runs its caller's error path (46_sequencer.md rules R281, R282, R284 to R286; 60_exceptions.md
rule R311): the negotiation and the page loop end the command; byte mode and erase latch the error and go to their
closing write-disable. That a register without a value keeps its old one is the model's choice (log entry 17). The spec
marks as its own decisions D1, D35 in these rules (log entry 24). -/
def Obligations.PollerFails : Prop :=
  ∀ (s : State) e, e = .timeout ∨ e = .transportError →
    let cause := if e = .transportError then s.q.cause else s.rsp.cause
    (s.q.ret = .qnPoll → s.failPoll e = { s with
      q := { s.q with fsm := .idle }, rsp := { s.rsp.error e 0 s.q.off s.q.len with cause := cause } })
    ∧ (s.q.ret = .wrPoll → s.failPoll e = { s with
      q := { s.q with fsm := .idle }, rsp := { s.rsp.error e s.q.doneBytes s.q.cur s.q.chunk with cause := cause } })
    ∧ (s.q.ret = .bwPoll → s.failPoll e = { s with
      q := { s.q with err := e, fsm := .bwWrdi }, rsp := { s.rsp with failOff := s.q.cur, failLen := s.q.chunk } })
    ∧ (s.q.ret = .erPoll → s.failPoll e = { s with
      q := { s.q with err := e, fsm := .erWrdi }, rsp := { s.rsp with failOff := s.q.cur, failLen := s.q.chunk } })

/-- Frame WRSR ends LOCK and UNLOCK with success, polling nothing (44_protection_codec.md rule R244). That a register
without a value keeps its old one is the model's choice (log entry 17). -/
def Obligations.WrsrEndsCodec : Prop :=
  ∀ (s : State) (p rx : List Byte), s.q.fsm = .lkWrsr ∨ s.q.fsm = .ulWrsr → s.reply (.wrsr p) = .ok rx →
    exec (.wrsr p) s = .next { s.sent (.wrsr p) with q := { s.q with fsm := .idle }, rsp := s.rsp.success 0 }

/-- Frame WREN goes on to the frame it enables, in each of its six states (46_sequencer.md rules R282, R284 to R287).
That a register without a value keeps its old one is the model's choice (log entry 17). -/
def Obligations.WrenEnables : Prop :=
  ∀ (s : State) (rx : List Byte), s.reply .wren = .ok rx →
    let u := s.sent .wren
    (s.q.fsm = .qnWren → exec .wren s = .next { u with q := { s.q with fsm := .qnWr } })
    ∧ (s.q.fsm = .wrWren → exec .wren s = .next { u with q := { s.q with fsm := .wrProg } })
    ∧ (s.q.fsm = .bwWren → exec .wren s = .next { u with q := { s.q with
        chunk := unitAt s.q.cur.toNat (s.q.len.toNat - s.q.doneBytes.toNat), fsm := .bwProg } })
    ∧ (s.q.fsm = .erWren → exec .wren s = .next { u with q := { s.q with fsm := .erErase } })
    ∧ (s.q.fsm = .lkWren → exec .wren s = .next { u with q := { s.q with fsm := .lkWrsr } })
    ∧ (s.q.fsm = .ulWren → exec .wren s = .next { u with q := { s.q with fsm := .ulWrsr } })

/-- Frame WRDI closes byte mode and erase (43_program_erase_read.md rules R205, R211; 60_exceptions.md rule R329): a
latched error is the one reported, whatever the write-disable did; with none, a failed write-disable is `TransportError`
with the full count; else the command succeeds. That a register without a value keeps its old one is the model's choice
(log entry 17). The spec marks as its own decisions D24, D26 in these rules (log entry 24). -/
def Obligations.WrdiCloses : Prop :=
  ∀ s : State, s.q.fsm = .bwWrdi ∨ s.q.fsm = .erWrdi →
    let u := s.sent .wrdi
    (s.q.err ≠ .ok → exec .wrdi s = .next { u with
      q := { s.q with fsm := .idle }
      rsp := { s.rsp with status := s.q.err, count := s.q.doneBytes,
                          cause := if s.q.err = .transportError then s.q.cause else s.rsp.cause } })
    ∧ (∀ c, s.q.err = .ok → s.reply .wrdi = .err c → exec .wrdi s = .next { u with
      q := { s.q with cause := .transport c, fsm := .idle }
      rsp := s.rsp.transportError (.transport c) s.q.doneBytes s.q.off s.q.len })
    ∧ (∀ rx, s.q.err = .ok → s.reply .wrdi = .ok rx → exec .wrdi s = .next { u with
      q := { s.q with fsm := .idle }, rsp := s.rsp.success s.q.doneBytes })

/-! ## Array frames -/

/-- The five array read frames deliver their bytes and end READ (43_program_erase_read.md rules R191 to R193). That a
register without a value keeps its old one is the model's choice (log entry 17). The spec marks as its own decision D37
in these rules (log entry 24). -/
def Obligations.ArrayReadsDeliver : Prop :=
  ∀ s i (addr n : Word64) rx,
    i = .readFrame addr n ∨ i = .readFast addr n ∨ i = .readDual addr n ∨ i = .readQuad addr n
      ∨ i = .readQuadIo addr n →
    s.q.fsm = .rdXfer → s.reply i = .ok rx → n.toNat ≤ rx.length →
    exec i s = .next { s.sent i with
      q := { s.q with fsm := .idle }, rsp := { s.rsp with status := .ok, count := s.q.len, rbuf := rx } }

/-- The program frames of the page loop and of byte mode, the erase frames and the negotiation's write call the poller
(43_program_erase_read.md rules R196, R204, R208; 45_quad_negotiator.md rule R265; 42_readiness_poller.md rules R181,
R187): entry sample, timeout, label, first poll state. A sample or a timeout that fits the 64 bits of its register is
kept as it is (10_state.md rule R26); what the register keeps of one that does not fit is a free value (log entry 7,
DESIGN CHOICE). That a register without a value keeps its old one is the model's choice (log entry 17). The spec marks
as its own decisions D17, D20, D35 in these rules (log entry 24). -/
def Obligations.FramesCallPoller : Prop :=
  ∀ s i (addr : Word64) data (op : Byte) rx, s.reply i = .ok rx →
    let u := (s.sent i).afterSample
    (s.q.fsm = .wrProg → i = .pp addr data ∨ i = .ppQuad addr data → exec i s = .next { u with
      q := { s.q with t0 := s.entryWord, tmo := s.timeoutWord s.cfg.tProg, ret := .wrPoll, fsm := .plRdsr } })
    ∧ (s.q.fsm = .bwProg → i = .bp addr data ∨ i = .aaiWp addr data → exec i s = .next { u with
      q := { s.q with t0 := s.entryWord, tmo := s.timeoutWord s.cfg.tProg, ret := .bwPoll, fsm := .plRdsr } })
    ∧ (s.q.fsm = .erErase → i = .se addr ∨ i = .be4k addr → exec i s = .next { u with
      q := { s.q with t0 := s.entryWord, tmo := s.timeoutWord s.cfg.tErase, ret := .erPoll, fsm := .plRdsr } })
    ∧ (s.q.fsm = .qnWr → i = .wrvr op data → exec i s = .next { u with
      q := { s.q with t0 := s.entryWord, tmo := s.timeoutWord s.cfg.tQuad, ret := .qnPoll, fsm := .plRdsr } })
    ∧ (s.now < 2 ^ 64 → s.entryWord = BitVec.ofNat 64 s.now)
    ∧ ∀ t, t < 2 ^ 64 → s.timeoutWord t = BitVec.ofNat 64 t

/-- Outside the loops a failed exchange ends the command with `TransportError`, count 0, and the record's offset and
length (60_exceptions.md rules R311, R321; 20_memory.md rule R65): `Err(cause)` gives the cause verbatim, a short answer
`SHORT`; a failed READ leaves its buffer a free value (43_program_erase_read.md rule R191). In the negotiation's
states the offset and length are IDENTIFY's (log entry 25, DEDUCED). That a register without a
value keeps its old one is the model's choice (log entry 17). The spec marks as its own decisions D1, D27, D43 in these
rules (log entry 24). -/
def Obligations.FailuresOutsideLoops : Prop :=
  ∀ (s : State) (i : Instr) (cause : Cause),
    let ended := { s.sent i with q := { s.q with cause := cause, fsm := .idle },
                                 rsp := s.rsp.transportError cause 0 s.q.off s.q.len }
    ((∃ c, s.reply i = .err c ∧ cause = .transport c) ∨ (s.reply i = .ok [] ∧ cause = .short) →
      (i = .rdsr → (s.q.fsm = .qnRdsr ∨ s.q.fsm = .lqRdsr ∨ s.q.fsm = .lkRdsr ∨ s.q.fsm = .ulRdsr ∨ s.q.fsm = .ilRdsr) →
        exec i s = .next ended)
      ∧ (∀ op v, i = .rdvr op → s.quadProc = some v → (s.q.fsm = .qnRd1 ∨ s.q.fsm = .qnRd2) → exec i s = .next ended))
    ∧ (∀ c, s.reply i = .err c → cause = .transport c →
      (i = .wren → (s.q.fsm = .qnWren ∨ s.q.fsm = .lkWren ∨ s.q.fsm = .ulWren) → exec i s = .next ended)
      ∧ (∀ p, i = .wrsr p → (s.q.fsm = .lkWrsr ∨ s.q.fsm = .ulWrsr) → exec i s = .next ended)
      ∧ (∀ op p, i = .wrvr op p → s.q.fsm = .qnWr → exec i s = .next ended))
    ∧ (∀ addr n : Word64, i = .readFrame addr n ∨ i = .readFast addr n ∨ i = .readDual addr n ∨ i = .readQuad addr n
        ∨ i = .readQuadIo addr n → s.q.fsm = .rdXfer →
      (∃ c, s.reply i = .err c ∧ cause = .transport c) ∨ (∃ rx, s.reply i = .ok rx ∧ rx.length < n.toNat
          ∧ cause = .short) →
      exec i s = .next { ended with
        rsp := { ended.rsp with rbuf := Config.failedReadBuf s.env.nFailedRead }
        env := { (s.sent i).env with nFailedRead := s.env.nFailedRead + 1 } })

/-- Inside the loops (60_exceptions.md rules R311, R321; 46_sequencer.md rules R284 to R286, R288; 20_memory.md rule
R65): the page loop ends with the bytes done and the chunk; byte mode and erase latch the error with their unit (the
initial write-enable of byte mode with the whole length) and go to their closing write-disable; the poller's two reads
run the caller's error path, with the transport's cause, or with `SHORT` for a short answer. That a register without a
value keeps its old one is the model's choice (log entry 17). The spec marks as its own decisions D1, D27, D43 in these
rules (log entry 24). -/
def Obligations.FailuresInLoops : Prop :=
  ∀ (s : State) (i : Instr),
    let polling := (s.q.fsm = .plRdsr ∧ i = .rdsr) ∨ (s.q.fsm = .plRdfsr ∧ i = .rdfsr)
    (∀ c, s.reply i = .err c →
      let cause := Cause.transport c
      let latched (f : FsmState) (n : Word64) : State := { s.sent i with
        q := { s.q with cause := cause, err := .transportError, fsm := f }
        rsp := { s.rsp with failOff := s.q.cur, failLen := n } }
      (∀ addr data, (s.q.fsm = .wrWren ∧ i = .wren) ∨ (s.q.fsm = .wrProg ∧ (i = .pp addr data ∨ i = .ppQuad addr data)) →
        exec i s = .next { s.sent i with
          q := { s.q with cause := cause, fsm := .idle }
          rsp := s.rsp.transportError cause s.q.doneBytes s.q.cur s.q.chunk })
      ∧ (s.q.fsm = .bwWren → i = .wren → exec i s = .next (latched .bwWrdi s.q.len))
      ∧ (∀ addr data, s.q.fsm = .bwProg → i = .bp addr data ∨ i = .aaiWp addr data →
        exec i s = .next (latched .bwWrdi s.q.chunk))
      ∧ (∀ addr, (s.q.fsm = .erWren ∧ i = .wren) ∨ (s.q.fsm = .erErase ∧ (i = .se addr ∨ i = .be4k addr)) →
        exec i s = .next (latched .erWrdi s.q.chunk))
      ∧ (polling → exec i s = .next ({ s.sent i with q := { s.q with cause := cause } }.failPoll .transportError)))
    ∧ (s.reply i = .ok [] → polling →
      exec i s = .next ({ s.sent i with q := { s.q with cause := .short } }.failPoll .transportError))

/-! ## The protection codec -/

/-- The decoding of the protection field (44_protection_codec.md rules R232, R234): `LockLen` and `LockOff` of a status
byte; the protected region is a suffix, `bp = 7` protects all, the length never decreases with `bp` and strictly
increases from 64 bytes on; and a range inside the device is locked exactly when something is protected and the range
starts inside the suffix. Writing a field changes that field only (30_encoding.md rule R107). The spec marks as its own
decisions D13 (the field's place, rule R107) and D14 (`7 - bp`, 44_protection_codec.md rule R231; log entry 24). -/
def Obligations.SuffixDecoding : Prop :=
  ∀ c : Config, c.wf = true → ∀ cap sr,
    protField c sr = (sr &&& c.srBpMask).toNat / 2 ^ c.srBpShift ∧ protField c sr ≤ 7
    ∧ lockLen c cap sr = (if protField c sr = 0 then 0 else cap / 2 ^ (7 - protField c sr))
    ∧ lockOff c cap sr + lockLen c cap sr = cap
    ∧ (protField c sr = 7 → lockLen c cap sr = cap)
    ∧ (∀ sr', protField c sr ≤ protField c sr' → lockLen c cap sr ≤ lockLen c cap sr')
    ∧ (∀ sr', 64 ≤ cap → protField c sr < protField c sr' → lockLen c cap sr < lockLen c cap sr')
    ∧ (∀ bp, bp ≤ 7 → protField c (withProtField c sr bp) = bp
        ∧ withProtField c sr bp &&& ~~~c.srBpMask = sr &&& ~~~c.srBpMask)
    ∧ ∀ off n, 1 ≤ n → off + n ≤ cap →
        (isLockedSr c cap sr off n = true ↔ 0 < lockLen c cap sr ∧ lockOff c cap sr ≤ off)

/-- LOCK's byte (44_protection_codec.md rules R241 to R243, R250): it never protects a byte below `offset`; it protects
as much as an encodable suffix inside `[offset, C)` can; it never protects less than before; the bits outside the field
are as read; and the request is refused exactly when the bytes after it are not already locked, when even the smallest
suffix reaches below `offset`, or when it would protect less than is protected now. The spec marks as its own decision
D31 in these rules (log entry 24). -/
def Obligations.LockByteCorrect : Prop :=
  ∀ c : Config, c.wf = true → ∀ cap off len old, cap < 2 ^ 64 → 1 ≤ len → off + len ≤ cap →
    (∀ new, lockByte c cap off len old = some new →
      off ≤ lockOff c cap new ∧ 1 ≤ protField c new
      ∧ (∀ bp, 1 ≤ bp → bp ≤ 7 → cap >>> (7 - bp) ≤ cap - off → cap >>> (7 - bp) ≤ lockLen c cap new)
      ∧ lockLen c cap old ≤ lockLen c cap new
      ∧ new &&& ~~~c.srBpMask = old &&& ~~~c.srBpMask)
    ∧ (lockByte c cap off len old = none ↔
      (off + len ≠ cap ∧ ¬ (0 < lockLen c cap old ∧ lockOff c cap old ≤ off + len))
      ∨ cap - off < cap >>> 6 ∨ cap - off < lockLen c cap old)

/-- UNLOCK's byte (44_protection_codec.md rules R246 to R248, R250), `unit` being the erase unit. A byte that is answered
never protects more than before and keeps the bits outside the field; a request that reaches the device's end unprotects
everything; otherwise the field is not the sentinel, and `KEEP_TAIL` keeps every byte after the request protected with
the smallest encodable suffix that does, `FREE_REQUEST` frees every byte of the request with the largest encodable suffix
that does. The request is refused exactly when the whole unit before it is locked, or, before the device's end, when its
tail cannot be encoded (under `KEEP_TAIL`, `rem <= C >> 7`; under `FREE_REQUEST`, `rem < C >> 6`) or the new suffix would
be larger than the old one. The spec marks as its own decisions D28, D29, D30, D31 in these rules (log entry 24). -/
def Obligations.UnlockByteCorrect : Prop :=
  ∀ c : Config, c.wf = true → ∀ cap unit off len old, cap < 2 ^ 64 → 1 ≤ len → off + len ≤ cap →
    let rem := cap - (off + len)
    (∀ new, unlockByte c cap unit off len old = some new →
      lockLen c cap new ≤ lockLen c cap old
      ∧ new &&& ~~~c.srBpMask = old &&& ~~~c.srBpMask
      ∧ (off + len = cap → protField c new = 0 ∧ lockLen c cap new = 0)
      ∧ (off + len < cap → 1 ≤ protField c new)
      ∧ (off + len < cap → c.unlockRound = .keepTail → lockOff c cap new ≤ off + len
          ∧ ∀ bp, 1 ≤ bp → bp ≤ 7 → rem ≤ cap >>> (7 - bp) → lockLen c cap new ≤ cap >>> (7 - bp))
      ∧ (off + len < cap → c.unlockRound = .freeRequest → off + len ≤ lockOff c cap new
          ∧ ∀ bp, 1 ≤ bp → bp ≤ 7 → cap >>> (7 - bp) ≤ rem → cap >>> (7 - bp) ≤ lockLen c cap new))
    ∧ (1 ≤ unit → (unlockByte c cap unit off len old = none ↔
      (unit ≤ off ∧ 0 < lockLen c cap old ∧ lockOff c cap old ≤ off - unit)
      ∨ (off + len < cap ∧ c.unlockRound = .keepTail ∧ (rem ≤ cap >>> 7 ∨ lockLen c cap old < rem))
      ∨ (off + len < cap ∧ c.unlockRound = .freeRequest ∧ (rem < cap >>> 6
          ∨ ∃ bp, 1 ≤ bp ∧ bp ≤ 7 ∧ cap >>> (7 - bp) ≤ rem ∧ lockLen c cap old < cap >>> (7 - bp)))))

/-! ## The flash array, through the chip `WB` -/

/-- Of the bytes of the array behind the well-behaved chip, an instruction changes only those its frame may change
(95_test_vectors.md section 5): under the write-enable latch, a program frame its own bytes below the protected suffix,
an erase frame the unit containing its address unless that reaches into the protected suffix; everything else none, and
so does every frame with the latch clear. A byte an erase frame may change is 0xFF after it, one a program frame may
change is the bitwise AND of old and new. Only a register write changes the status register. -/
def Obligations.InstructionsTouchOnlyTheirBytes : Prop :=
  ∀ (s : State) (i : Instr) (t : State) (ch : Chip), s.env.transport = .wellBehaved ch → ch.mem.wf → exec i s = .next t →
    ∃ ch', t.env.transport = .wellBehaved ch' ∧ ch'.desc = ch.desc
      ∧ (∀ a, ch.mayChange s.cfg i a = false → ch'.mem.read a = ch.mem.read a)
      ∧ (∀ a, ch.mayChange s.cfg i a = true →
          (∀ addr, i = .se addr ∨ i = .be4k addr → ch'.mem.read a = 0xFF)
          ∧ ∀ addr data, i = .pp addr data ∨ i = .ppQuad addr data ∨ i = .bp addr data ∨ i = .aaiWp addr data →
              ch'.mem.read a = ch.mem.read a &&& data.getD (a - addr.toNat) 0)
      ∧ ((∀ p, i ≠ .wrsr p) → (∀ op p, i ≠ .wrvr op p) → ch'.sr = ch.sr ∧ ch'.vr = ch.vr)

/-- READ behind the well-behaved chip: the two steps of the command deliver the array's bytes, `rbuf[i]` the byte at
`offset + i`, and change nothing of the chip (43_program_erase_read.md rules R191, R192; 20_memory.md rule R66). -/
def Obligations.ReadReturnsArray : Prop :=
  ∀ (s : State) (ch : Chip) (off len : Word64) (rest : List CommandRecord), s.cfg.wf = true →
      s.env.resetLine = false → s.q.fsm = .idle → s.dev.identified = true →
    s.dev.window = false → s.dev.readOpcode ≠ .readQuadIo → s.env.transport = .wellBehaved ch →
    s.env.port = commandRecord 0x02 off len [] :: rest → len ≠ 0 →
    off.toNat + len.toNat ≤ s.dev.capacity.toNat → s.dev.capacity.toNat = ch.desc.capacity →
    ∃ t, Host.Core.run Sys2Proof.core 2 s = .next t ∧ t.q.fsm = .idle ∧ t.rsp.status = .ok ∧ t.rsp.count = len
      ∧ t.rsp.rbuf.length = len.toNat
      ∧ (∀ k, k < len.toNat → t.rsp.rbuf[k]? = some (ch.mem.read (off.toNat + k)))
      ∧ t.env.transport = .wellBehaved ch

/-- WRITE in page mode behind the well-behaved chip (95_test_vectors.md section 5, the round-trip property; 20_memory.md
rule R81): a WRITE of a range below the protected suffix runs to its end, succeeds with the full count, and leaves in the
array the bitwise AND of old and new on the range and every other byte as it was. The premises are those of the spec's
statement, under the default masks. -/
def Obligations.PageWriteProgramsRange : Prop :=
  ∀ (s : State) (ch : Chip) (off len : Word64) (buf : List Byte) (rest : List CommandRecord), s.Inv →
      s.env.resetLine = false → s.q.fsm = .idle → s.dev.identified = true →
    s.dev.progVariant = .page → s.cfg.lockQuery = .codec ∨ s.cfg.lockQuery = .absent →
    s.cfg.srWip = 0x01 → s.cfg.fsrReady = 0x80 → s.env.transport = .wellBehaved ch →
    s.env.port = commandRecord 0x03 off len buf :: rest → buf.length = len.toNat → len ≠ 0 →
    off.toNat + len.toNat ≤ s.dev.capacity.toNat → s.dev.capacity.toNat = ch.desc.capacity →
    off.toNat + len.toNat ≤ lockOff s.cfg ch.desc.capacity ch.sr →
    ∃ n t ch', Host.Core.run Sys2Proof.core n s = .next t ∧ t.q.fsm = .idle ∧ t.rsp.status = .ok ∧ t.rsp.count = len
      ∧ t.env.transport = .wellBehaved ch' ∧ ch'.sr = ch.sr
      ∧ ∀ a, ch'.mem.read a =
          if off.toNat ≤ a ∧ a < off.toNat + len.toNat then ch.mem.read a &&& buf.getD (a - off.toNat) 0
          else ch.mem.read a

/-- A WRITE or ERASE that starts inside the protected suffix of the well-behaved chip (95_test_vectors.md section 5, lock
then write; 44_protection_codec.md rule R251), under `CODEC`. With the suffix already protected the command ends with
`Locked` after one exchange, the read of the status register, and the chip is as it was. After a LOCK that writes a byte
(RDSR, WREN, WRSR) it ends the same way, against the byte LOCK wrote: of the chip only the status register and the latch
have changed, the array is untouched. The premise on the field's place keeps it clear of the two bits the chip holds at
0. -/
def Obligations.LockedRangeRefused : Prop :=
  ∀ (s : State) (ch : Chip) (off len : Word64) (i : Instr) (r : CommandRecord) (rest : List CommandRecord), s.Inv →
      s.env.resetLine = false → s.q.fsm = .idle → s.dev.identified = true →
    s.dev.protVariant = .bp → s.cfg.lockQuery = .codec → s.env.transport = .wellBehaved ch →
    (i = .erase off len ∧ len.toNat % s.dev.eraseSize.toNat = 0) ∨ (∃ buf, i = .write off len buf
        ∧ buf.length = len.toNat) →
    encodeRecord i = some r → len ≠ 0 → off.toNat + len.toNat ≤ s.dev.capacity.toNat →
    let cap := s.dev.capacity.toNat
    let statusRead (sr : Byte) : Event := .xfer ⟨[s.cfg.opc.rdsr], none, some 1⟩ (.ok [sr])
    let refused (t : State) : Prop := t.q.fsm = .idle ∧ t.rsp.status = .locked ∧ t.rsp.count = 0
      ∧ t.rsp.failOff = off ∧ t.rsp.failLen = len
    (s.env.port = r :: rest → 0 < lockLen s.cfg cap ch.sr → lockOff s.cfg cap ch.sr ≤ off.toNat →
      ∃ t, Host.Core.run Sys2Proof.core 2 s = .next t ∧ refused t ∧ t.hist = s.hist ++ [statusRead ch.sr]
        ∧ t.env.transport = .wellBehaved ch)
    ∧ ∀ (o l : Word64) (new : Byte), s.env.port = commandRecord 0x05 o l [] :: r :: rest → l ≠ 0 →
        o.toNat + l.toNat ≤ cap → 2 ≤ s.cfg.srBpShift → lockByte s.cfg cap o.toNat l.toNat ch.sr = some new →
        lockOff s.cfg cap new ≤ off.toNat →
      ∃ t, Host.Core.run Sys2Proof.core 6 s = .next t ∧ refused t
        ∧ t.hist = s.hist ++ [statusRead ch.sr, .xfer ⟨[s.cfg.opc.wren], none, none⟩ (.ok []),
            .xfer ⟨[s.cfg.opc.wrsr], some [new], none⟩ (.ok []), statusRead (new &&& 0xFC)]
        ∧ t.env.transport = .wellBehaved { ch with sr := new &&& 0xFC, wel := false }
end

