-- ==== Sys2Proof/Laws/Encoding.lean ====
section
/-!
SUPPORT. The byte orders of the two interfaces: lengths, and that reading the bytes of a number gives it back.
-/

namespace Sys2Proof

@[simp] theorem bytesBE_length (v n : Nat) : (bytesBE v n).length = n := by
  induction n with
  | zero => rfl
  | succ n ih => simp [bytesBE, ih]

@[simp] theorem bytesLE_length (v n : Nat) : (bytesLE v n).length = n := by
  induction n generalizing v with
  | zero => rfl
  | succ n ih => simp [bytesLE, ih]

/-- Reading on after a first part. -/
theorem natOfBE_acc (bs : List Byte) (acc : Nat) :
    bs.foldl (fun a b => 256 * a + b.toNat) acc = acc * 256 ^ bs.length + natOfBE bs := by
  induction bs generalizing acc with
  | nil => simp [natOfBE]
  | cons b bs ih =>
    simp only [natOfBE, List.foldl_cons, List.length_cons] at ih ⊢
    rw [ih, ih (256 * 0 + b.toNat), Nat.pow_succ]
    rw [Nat.mul_zero, Nat.zero_add, Nat.add_mul, Nat.add_assoc]
    congr 1
    rw [Nat.mul_comm 256 acc, Nat.mul_assoc, Nat.mul_comm 256]

theorem natOfBE_cons (b : Byte) (bs : List Byte) : natOfBE (b :: bs) = b.toNat * 256 ^ bs.length + natOfBE bs := by
  rw [natOfBE, List.foldl_cons, natOfBE_acc]; simp

/-- Reading the `n` low bytes of `v`, most significant first. -/
theorem natOfBE_bytesBE (v n : Nat) : natOfBE (bytesBE v n) = v % 256 ^ n := by
  induction n with
  | zero => simp [bytesBE, natOfBE, Nat.mod_one]
  | succ n ih =>
    rw [bytesBE, natOfBE_cons, ih, bytesBE_length, BitVec.toNat_ofNat, Nat.shiftRight_eq_div_pow,
      show (2 : Nat) ^ (8 * n) = 256 ^ n by rw [Nat.pow_mul], show (2 : Nat) ^ 8 = 256 by decide,
      Nat.pow_succ, Nat.mod_mul, Nat.mul_comm]
    omega

/-- Reading the `n` low bytes of `v`, least significant first. -/
theorem natOfLE_bytesLE (v n : Nat) : natOfLE (bytesLE v n) = v % 256 ^ n := by
  induction n generalizing v with
  | zero => simp [bytesLE, natOfLE, Nat.mod_one]
  | succ n ih =>
    rw [bytesLE, natOfLE, ih, BitVec.toNat_ofNat, Nat.shiftRight_eq_div_pow, show (2 : Nat) ^ 8 = 256 by decide,
      Nat.pow_succ, Nat.mul_comm (256 ^ n), Nat.mod_mul]

/-- A 64-bit word from its eight serialised bytes. -/
theorem word64_of_bytesLE (v : Word64) : BitVec.ofNat 64 (natOfLE (bytesLE v.toNat 8)) = v := by
  rw [natOfLE_bytesLE, show (256 : Nat) ^ 8 = 2 ^ 64 by decide, Nat.mod_eq_of_lt v.isLt]
  simp

/-- An address from its address part, where it fits (20_memory.md rule R61). -/
theorem word64_of_addressPart {g : FrameGeom} {a : Word64} (h : addrFits g a = true) :
    BitVec.ofNat 64 (natOfBE (addressPart g a)) = a := by
  have h : a.toNat < 2 ^ (8 * g.addrWidth) := by simpa [addrFits] using h
  rw [addressPart, natOfBE_bytesBE, show (256 : Nat) ^ g.addrWidth = 2 ^ (8 * g.addrWidth) by rw [Nat.pow_mul],
    Nat.mod_eq_of_lt h]
  simp

@[simp] theorem addressPart_length (g : FrameGeom) (a : Word64) : (addressPart g a).length = g.addrWidth :=
  bytesBE_length _ _

/-- Byte `k` of an address part (30_encoding.md rule R101). -/
theorem bytesBE_getElem? (v n k : Nat) (h : k < n) :
    (bytesBE v n)[k]? = some (BitVec.ofNat 8 (v >>> (8 * (n - 1 - k)))) := by
  induction n generalizing k with
  | zero => omega
  | succ n ih =>
    cases k with
    | zero => simp [bytesBE]
    | succ k => simp only [bytesBE, List.getElem?_cons_succ]; rw [ih k (by omega)]; congr 4; omega

end Sys2Proof
end

