-- ==== Sys2Proof/Laws/Memory.lean ====
section
/-!
SUPPORT. The byte memory of the chip `WB`: every operation keeps the canonical form, a read after a write to the same
address gives the byte written, and a write leaves every other address alone.
-/

namespace Sys2Proof.Machine

open Sys2Proof

/-! ## The canonical form -/

theorem Memory.wf_nil : Memory.wf [] := by decide

theorem Memory.wf_tail {cell : Host.Cell} {m : Memory} (h : Memory.wf (cell :: m)) : Memory.wf m :=
  ⟨(List.pairwise_cons.1 h.1).2, fun c hc => h.2 c (List.mem_cons_of_mem _ hc)⟩

theorem Memory.wf_consByte {a : Nat} {b : Byte} {m : Memory} (h : m.wf) (hlt : ∀ c ∈ m, a < c.1) :
    (Memory.consByte a b m).wf := by
  unfold Memory.consByte
  split
  · exact h
  · rename_i hb
    refine ⟨List.pairwise_cons.2 ⟨hlt, h.1⟩, ?_⟩
    intro c hc
    rcases List.mem_cons.1 hc with rfl | hc
    · exact hb
    · exact h.2 c hc

/-- A written cell's address is the one written or an old one. -/
theorem Memory.mem_write {m : Memory} {a : Nat} {b : Byte} {c : Host.Cell} (h : c ∈ m.write a b) :
    c.1 = a ∨ c ∈ m := by
  induction m with
  | nil =>
    unfold Memory.write Memory.consByte at h
    split at h
    · cases h
    · simp only [List.mem_singleton] at h; exact .inl (by rw [h])
  | cons d m ih =>
    unfold Memory.write Memory.consByte at h
    split at h
    · split at h
      · exact .inr h
      · rcases List.mem_cons.1 h with rfl | h
        · exact .inl rfl
        · exact .inr h
    · split at h
      · split at h
        · exact .inr (List.mem_cons_of_mem _ h)
        · rcases List.mem_cons.1 h with rfl | h
          · exact .inl rfl
          · exact .inr (List.mem_cons_of_mem _ h)
      · rcases List.mem_cons.1 h with rfl | h
        · exact .inr List.mem_cons_self
        · rcases ih h with h | h
          · exact .inl h
          · exact .inr (List.mem_cons_of_mem _ h)

theorem Memory.wf_write {m : Memory} (a : Nat) (b : Byte) (h : m.wf) : (m.write a b).wf := by
  induction m with
  | nil => exact Memory.wf_consByte h (by simp)
  | cons d m ih =>
    have hd := List.pairwise_cons.1 h.1
    unfold Memory.write
    split
    · rename_i hlt
      refine Memory.wf_consByte h ?_
      intro c hc
      rcases List.mem_cons.1 hc with rfl | hc
      · exact hlt
      · exact Nat.lt_trans hlt (hd.1 c hc)
    · split
      · rename_i heq
        exact Memory.wf_consByte (Memory.wf_tail h) (fun c hc => heq ▸ hd.1 c hc)
      · have iw := ih (Memory.wf_tail h)
        refine ⟨List.pairwise_cons.2 ⟨?_, iw.1⟩, ?_⟩
        · intro c hc
          rcases Memory.mem_write hc with rfl | hc
          · omega
          · exact hd.1 c hc
        · intro c hc
          rcases List.mem_cons.1 hc with rfl | hc
          · exact h.2 _ List.mem_cons_self
          · exact iw.2 c hc

theorem Memory.wf_program {m : Memory} (limit a : Nat) (data : List Byte) (h : m.wf) :
    (m.program limit a data).wf := by
  induction data generalizing m a with
  | nil => exact h
  | cons b data ih =>
    unfold Memory.program
    split
    · exact ih _ (Memory.wf_write _ _ h)
    · exact ih _ h

theorem Memory.wf_eraseRange {m : Memory} (lo n : Nat) (h : m.wf) : (m.eraseRange lo n).wf :=
  ⟨h.1.sublist List.filter_sublist, fun c hc => h.2 c (List.mem_of_mem_filter hc)⟩

/-! ## Reading -/

/-- An address below every listed one reads as erased. -/
theorem Memory.read_below {m : Memory} {a : Nat} (h : ∀ c ∈ m, a < c.1) : m.read a = erasedByte := by
  induction m with
  | nil => rfl
  | cons d m ih =>
    have := h d List.mem_cons_self
    simp only [Memory.read]
    rw [if_neg (by omega)]
    exact ih (fun c hc => h c (List.mem_cons_of_mem _ hc))

theorem Memory.read_consByte {m : Memory} {a : Nat} (b : Byte) (x : Nat) (hlt : ∀ c ∈ m, a < c.1) :
    (Memory.consByte a b m).read x = if x = a then b else m.read x := by
  unfold Memory.consByte
  by_cases hb : b = erasedByte
  · rw [if_pos hb]
    split
    · rename_i hx
      rw [hx, Memory.read_below hlt, hb]
    · rfl
  · rw [if_neg hb]
    simp only [Memory.read, eq_comm]

/-- A read after a write: the byte written at its address, the old byte at every other. -/
theorem Memory.read_write {m : Memory} (h : m.wf) (a : Nat) (b : Byte) (x : Nat) :
    (m.write a b).read x = if x = a then b else m.read x := by
  induction m with
  | nil => exact Memory.read_consByte b x (by simp)
  | cons d m ih =>
    have hd := List.pairwise_cons.1 h.1
    unfold Memory.write
    split
    · rename_i hlt
      refine Memory.read_consByte b x ?_
      intro c hc
      rcases List.mem_cons.1 hc with rfl | hc
      · exact hlt
      · exact Nat.lt_trans hlt (hd.1 c hc)
    · split
      · rename_i heq
        rw [Memory.read_consByte b x (fun c hc => heq ▸ hd.1 c hc)]
        split
        · rfl
        · simp only [Memory.read]
          rw [if_neg (by omega)]
      · rename_i h1 h2
        simp only [Memory.read, ih (Memory.wf_tail h)]
        split
        · rename_i hx
          rw [if_neg (by omega)]
        · rfl

/-- What a program leaves at an address: the bitwise AND where it reaches, below the limit; the old byte elsewhere. -/
theorem Memory.read_program {m : Memory} (h : m.wf) (limit a : Nat) (data : List Byte) (x : Nat) :
    (m.program limit a data).read x =
      if a ≤ x ∧ x < a + data.length ∧ x < limit then m.read x &&& data.getD (x - a) 0 else m.read x := by
  induction data generalizing m a with
  | nil => simp only [Memory.program, List.length_nil]; rw [if_neg (by omega)]
  | cons b data ih =>
    unfold Memory.program
    have key : ∀ m' : Memory, m'.wf → (m'.read x = if x = a ∧ a < limit then m.read x &&& b else m.read x) →
        (m'.program limit (a + 1) data).read x =
          if a ≤ x ∧ x < a + (b :: data).length ∧ x < limit then m.read x &&& (b :: data).getD (x - a) 0
          else m.read x := by
      intro m' hm' hr
      rw [ih hm' (a + 1), hr, List.length_cons]
      by_cases hx : x = a
      · subst hx
        rw [if_neg (show ¬ (x + 1 ≤ x ∧ _) by omega)]
        by_cases hl : x < limit
        · rw [if_pos ⟨rfl, hl⟩, if_pos ⟨Nat.le_refl _, by omega, hl⟩, Nat.sub_self]; rfl
        · rw [if_neg (by omega), if_neg (by omega)]
      · rw [if_neg (show ¬ (x = a ∧ a < limit) by omega)]
        by_cases hc : a + 1 ≤ x ∧ x < a + 1 + data.length ∧ x < limit
        · rw [if_pos hc, if_pos (by omega)]
          obtain ⟨k, hk⟩ : ∃ k, x - a = k + 1 := ⟨x - a - 1, by omega⟩
          rw [hk, show x - (a + 1) = k by omega]; rfl
        · rw [if_neg hc, if_neg (by omega)]
    by_cases hl : a < limit
    · rw [if_pos hl]
      refine key _ (Memory.wf_write _ _ h) ?_
      rw [Memory.read_write h]
      by_cases hx : x = a
      · rw [if_pos hx, if_pos ⟨hx, hl⟩, hx]
      · rw [if_neg hx, if_neg (fun h => hx h.1)]
    · rw [if_neg hl]
      exact key _ h (by rw [if_neg (fun h => hl h.2)])

/-- What an erase leaves at an address. -/
theorem Memory.read_eraseRange (m : Memory) (lo n x : Nat) :
    (m.eraseRange lo n).read x = if lo ≤ x ∧ x < lo + n then erasedByte else m.read x := by
  induction m with
  | nil => simp [Memory.eraseRange, Memory.read]
  | cons d m ih =>
    unfold Memory.eraseRange at ih ⊢
    rw [List.filter_cons]
    by_cases hd : lo ≤ d.1 ∧ d.1 < lo + n
    · rw [if_neg (by simp [hd]), ih]
      simp only [Memory.read]
      split
      · rfl
      · rw [if_neg (by omega)]
    · rw [if_pos (by simp only [Bool.not_eq_true', Bool.and_eq_false_iff, decide_eq_false_iff_not]; omega)]
      simp only [Memory.read]
      split
      · rename_i hx
        rw [if_neg (by omega)]
      · exact ih

/-- Bytes read one by one. -/
theorem Memory.readBytes_getElem? (m : Memory) (a n k : Nat) (h : k < n) :
    (m.readBytes a n)[k]? = some (m.read (a + k)) := by
  simp [Memory.readBytes, h]

@[simp] theorem Memory.readBytes_length (m : Memory) (a n : Nat) : (m.readBytes a n).length = n := by
  simp [Memory.readBytes]

/-! ## The chip -/

/-- No frame takes `WB`'s array out of its canonical form. -/
theorem Chip.after_wf {ch : Chip} (c : Config) (i : Instr) (h : ch.mem.wf) : (ch.after c i).mem.wf := by
  cases i
  all_goals first
    | exact h
    | (simp only [Chip.after, Chip.programArray, Chip.programUnit, Chip.eraseUnit, Chip.writeRegister]
       repeat' split
       all_goals first
         | exact h
         | exact Memory.wf_program _ _ _ h
         | exact Memory.wf_eraseRange _ _ h)

end Sys2Proof.Machine
end

