-- ==== Sys2Proof/Laws/State.lean ====
section
/-!
SUPPORT. One lemma per field per register update of Machine/Ops.lean, so that no proof unfolds an update. (Lemmas about
the composed operations stand in Laws/Ops.lean.)
-/

namespace Sys2Proof.Machine

open Sys2Proof

variable (s : State)

/-! ## `setFsm` -/

@[simp] theorem State.setFsm_cfg (f : FsmState) : (s.setFsm f).cfg = s.cfg := rfl
@[simp] theorem State.setFsm_dev (f : FsmState) : (s.setFsm f).dev = s.dev := rfl
@[simp] theorem State.setFsm_q_op (f : FsmState) : (s.setFsm f).q.op = s.q.op := rfl
@[simp] theorem State.setFsm_q_off (f : FsmState) : (s.setFsm f).q.off = s.q.off := rfl
@[simp] theorem State.setFsm_q_len (f : FsmState) : (s.setFsm f).q.len = s.q.len := rfl
@[simp] theorem State.setFsm_q_cur (f : FsmState) : (s.setFsm f).q.cur = s.q.cur := rfl
@[simp] theorem State.setFsm_q_doneBytes (f : FsmState) : (s.setFsm f).q.doneBytes = s.q.doneBytes := rfl
@[simp] theorem State.setFsm_q_chunk (f : FsmState) : (s.setFsm f).q.chunk = s.q.chunk := rfl
@[simp] theorem State.setFsm_q_t0 (f : FsmState) : (s.setFsm f).q.t0 = s.q.t0 := rfl
@[simp] theorem State.setFsm_q_tmo (f : FsmState) : (s.setFsm f).q.tmo = s.q.tmo := rfl
@[simp] theorem State.setFsm_q_srOld (f : FsmState) : (s.setFsm f).q.srOld = s.q.srOld := rfl
@[simp] theorem State.setFsm_q_srNew (f : FsmState) : (s.setFsm f).q.srNew = s.q.srNew := rfl
@[simp] theorem State.setFsm_q_reg (f : FsmState) : (s.setFsm f).q.reg = s.q.reg := rfl
@[simp] theorem State.setFsm_q_err (f : FsmState) : (s.setFsm f).q.err = s.q.err := rfl
@[simp] theorem State.setFsm_q_ret (f : FsmState) : (s.setFsm f).q.ret = s.q.ret := rfl
@[simp] theorem State.setFsm_q_fsm (f : FsmState) : (s.setFsm f).q.fsm = f := rfl
@[simp] theorem State.setFsm_q_idbuf (f : FsmState) : (s.setFsm f).q.idbuf = s.q.idbuf := rfl
@[simp] theorem State.setFsm_q_cause (f : FsmState) : (s.setFsm f).q.cause = s.q.cause := rfl
@[simp] theorem State.setFsm_rsp (f : FsmState) : (s.setFsm f).rsp = s.rsp := rfl
@[simp] theorem State.setFsm_wbuf (f : FsmState) : (s.setFsm f).wbuf = s.wbuf := rfl
@[simp] theorem State.setFsm_hist (f : FsmState) : (s.setFsm f).hist = s.hist := rfl
@[simp] theorem State.setFsm_env (f : FsmState) : (s.setFsm f).env = s.env := rfl

/-! ## `load` -/

@[simp] theorem State.load_cfg (code : Byte) (off len : Word64) : (s.load code off len).cfg = s.cfg := rfl
@[simp] theorem State.load_dev (code : Byte) (off len : Word64) : (s.load code off len).dev = s.dev := rfl
@[simp] theorem State.load_q_op (code : Byte) (off len : Word64) : (s.load code off len).q.op = code := rfl
@[simp] theorem State.load_q_off (code : Byte) (off len : Word64) : (s.load code off len).q.off = off := rfl
@[simp] theorem State.load_q_len (code : Byte) (off len : Word64) : (s.load code off len).q.len = len := rfl
@[simp] theorem State.load_q_cur (code : Byte) (off len : Word64) : (s.load code off len).q.cur = s.q.cur := rfl
@[simp] theorem State.load_q_doneBytes (code : Byte) (off len : Word64) :
    (s.load code off len).q.doneBytes = s.q.doneBytes := rfl
@[simp] theorem State.load_q_chunk (code : Byte) (off len : Word64) : (s.load code off len).q.chunk = s.q.chunk := rfl
@[simp] theorem State.load_q_t0 (code : Byte) (off len : Word64) : (s.load code off len).q.t0 = s.q.t0 := rfl
@[simp] theorem State.load_q_tmo (code : Byte) (off len : Word64) : (s.load code off len).q.tmo = s.q.tmo := rfl
@[simp] theorem State.load_q_srOld (code : Byte) (off len : Word64) : (s.load code off len).q.srOld = s.q.srOld := rfl
@[simp] theorem State.load_q_srNew (code : Byte) (off len : Word64) : (s.load code off len).q.srNew = s.q.srNew := rfl
@[simp] theorem State.load_q_reg (code : Byte) (off len : Word64) : (s.load code off len).q.reg = s.q.reg := rfl
@[simp] theorem State.load_q_err (code : Byte) (off len : Word64) : (s.load code off len).q.err = s.q.err := rfl
@[simp] theorem State.load_q_ret (code : Byte) (off len : Word64) : (s.load code off len).q.ret = s.q.ret := rfl
@[simp] theorem State.load_q_fsm (code : Byte) (off len : Word64) : (s.load code off len).q.fsm = s.q.fsm := rfl
@[simp] theorem State.load_q_idbuf (code : Byte) (off len : Word64) : (s.load code off len).q.idbuf = s.q.idbuf := rfl
@[simp] theorem State.load_q_cause (code : Byte) (off len : Word64) : (s.load code off len).q.cause = s.q.cause := rfl
@[simp] theorem State.load_rsp (code : Byte) (off len : Word64) : (s.load code off len).rsp = s.rsp := rfl
@[simp] theorem State.load_wbuf (code : Byte) (off len : Word64) : (s.load code off len).wbuf = s.wbuf := rfl
@[simp] theorem State.load_hist (code : Byte) (off len : Word64) : (s.load code off len).hist = s.hist := rfl
@[simp] theorem State.load_env (code : Byte) (off len : Word64) : (s.load code off len).env = s.env := rfl

/-! ## `holdBuffer` -/

@[simp] theorem State.holdBuffer_cfg (b : List Byte) : (s.holdBuffer b).cfg = s.cfg := rfl
@[simp] theorem State.holdBuffer_dev (b : List Byte) : (s.holdBuffer b).dev = s.dev := rfl
@[simp] theorem State.holdBuffer_q (b : List Byte) : (s.holdBuffer b).q = s.q := rfl
@[simp] theorem State.holdBuffer_rsp (b : List Byte) : (s.holdBuffer b).rsp = s.rsp := rfl
@[simp] theorem State.holdBuffer_wbuf (b : List Byte) : (s.holdBuffer b).wbuf = b := rfl
@[simp] theorem State.holdBuffer_hist (b : List Byte) : (s.holdBuffer b).hist = s.hist := rfl
@[simp] theorem State.holdBuffer_env (b : List Byte) : (s.holdBuffer b).env = s.env := rfl

/-! ## `setCursor` -/

@[simp] theorem State.setCursor_cfg (cur n : Word64) : (s.setCursor cur n).cfg = s.cfg := rfl
@[simp] theorem State.setCursor_dev (cur n : Word64) : (s.setCursor cur n).dev = s.dev := rfl
@[simp] theorem State.setCursor_q_op (cur n : Word64) : (s.setCursor cur n).q.op = s.q.op := rfl
@[simp] theorem State.setCursor_q_off (cur n : Word64) : (s.setCursor cur n).q.off = s.q.off := rfl
@[simp] theorem State.setCursor_q_len (cur n : Word64) : (s.setCursor cur n).q.len = s.q.len := rfl
@[simp] theorem State.setCursor_q_cur (cur n : Word64) : (s.setCursor cur n).q.cur = cur := rfl
@[simp] theorem State.setCursor_q_doneBytes (cur n : Word64) : (s.setCursor cur n).q.doneBytes = n := rfl
@[simp] theorem State.setCursor_q_chunk (cur n : Word64) : (s.setCursor cur n).q.chunk = s.q.chunk := rfl
@[simp] theorem State.setCursor_q_t0 (cur n : Word64) : (s.setCursor cur n).q.t0 = s.q.t0 := rfl
@[simp] theorem State.setCursor_q_tmo (cur n : Word64) : (s.setCursor cur n).q.tmo = s.q.tmo := rfl
@[simp] theorem State.setCursor_q_srOld (cur n : Word64) : (s.setCursor cur n).q.srOld = s.q.srOld := rfl
@[simp] theorem State.setCursor_q_srNew (cur n : Word64) : (s.setCursor cur n).q.srNew = s.q.srNew := rfl
@[simp] theorem State.setCursor_q_reg (cur n : Word64) : (s.setCursor cur n).q.reg = s.q.reg := rfl
@[simp] theorem State.setCursor_q_err (cur n : Word64) : (s.setCursor cur n).q.err = s.q.err := rfl
@[simp] theorem State.setCursor_q_ret (cur n : Word64) : (s.setCursor cur n).q.ret = s.q.ret := rfl
@[simp] theorem State.setCursor_q_fsm (cur n : Word64) : (s.setCursor cur n).q.fsm = s.q.fsm := rfl
@[simp] theorem State.setCursor_q_idbuf (cur n : Word64) : (s.setCursor cur n).q.idbuf = s.q.idbuf := rfl
@[simp] theorem State.setCursor_q_cause (cur n : Word64) : (s.setCursor cur n).q.cause = s.q.cause := rfl
@[simp] theorem State.setCursor_rsp (cur n : Word64) : (s.setCursor cur n).rsp = s.rsp := rfl
@[simp] theorem State.setCursor_wbuf (cur n : Word64) : (s.setCursor cur n).wbuf = s.wbuf := rfl
@[simp] theorem State.setCursor_hist (cur n : Word64) : (s.setCursor cur n).hist = s.hist := rfl
@[simp] theorem State.setCursor_env (cur n : Word64) : (s.setCursor cur n).env = s.env := rfl

/-! ## `setChunk` -/

@[simp] theorem State.setChunk_cfg (n : Word64) : (s.setChunk n).cfg = s.cfg := rfl
@[simp] theorem State.setChunk_dev (n : Word64) : (s.setChunk n).dev = s.dev := rfl
@[simp] theorem State.setChunk_q_op (n : Word64) : (s.setChunk n).q.op = s.q.op := rfl
@[simp] theorem State.setChunk_q_off (n : Word64) : (s.setChunk n).q.off = s.q.off := rfl
@[simp] theorem State.setChunk_q_len (n : Word64) : (s.setChunk n).q.len = s.q.len := rfl
@[simp] theorem State.setChunk_q_cur (n : Word64) : (s.setChunk n).q.cur = s.q.cur := rfl
@[simp] theorem State.setChunk_q_doneBytes (n : Word64) : (s.setChunk n).q.doneBytes = s.q.doneBytes := rfl
@[simp] theorem State.setChunk_q_chunk (n : Word64) : (s.setChunk n).q.chunk = n := rfl
@[simp] theorem State.setChunk_q_t0 (n : Word64) : (s.setChunk n).q.t0 = s.q.t0 := rfl
@[simp] theorem State.setChunk_q_tmo (n : Word64) : (s.setChunk n).q.tmo = s.q.tmo := rfl
@[simp] theorem State.setChunk_q_srOld (n : Word64) : (s.setChunk n).q.srOld = s.q.srOld := rfl
@[simp] theorem State.setChunk_q_srNew (n : Word64) : (s.setChunk n).q.srNew = s.q.srNew := rfl
@[simp] theorem State.setChunk_q_reg (n : Word64) : (s.setChunk n).q.reg = s.q.reg := rfl
@[simp] theorem State.setChunk_q_err (n : Word64) : (s.setChunk n).q.err = s.q.err := rfl
@[simp] theorem State.setChunk_q_ret (n : Word64) : (s.setChunk n).q.ret = s.q.ret := rfl
@[simp] theorem State.setChunk_q_fsm (n : Word64) : (s.setChunk n).q.fsm = s.q.fsm := rfl
@[simp] theorem State.setChunk_q_idbuf (n : Word64) : (s.setChunk n).q.idbuf = s.q.idbuf := rfl
@[simp] theorem State.setChunk_q_cause (n : Word64) : (s.setChunk n).q.cause = s.q.cause := rfl
@[simp] theorem State.setChunk_rsp (n : Word64) : (s.setChunk n).rsp = s.rsp := rfl
@[simp] theorem State.setChunk_wbuf (n : Word64) : (s.setChunk n).wbuf = s.wbuf := rfl
@[simp] theorem State.setChunk_hist (n : Word64) : (s.setChunk n).hist = s.hist := rfl
@[simp] theorem State.setChunk_env (n : Word64) : (s.setChunk n).env = s.env := rfl

/-! ## `setPoll` -/

@[simp] theorem State.setPoll_cfg (t0 tmo : Word64) (l : PollLabel) : (s.setPoll t0 tmo l).cfg = s.cfg := rfl
@[simp] theorem State.setPoll_dev (t0 tmo : Word64) (l : PollLabel) : (s.setPoll t0 tmo l).dev = s.dev := rfl
@[simp] theorem State.setPoll_q_op (t0 tmo : Word64) (l : PollLabel) : (s.setPoll t0 tmo l).q.op = s.q.op := rfl
@[simp] theorem State.setPoll_q_off (t0 tmo : Word64) (l : PollLabel) : (s.setPoll t0 tmo l).q.off = s.q.off := rfl
@[simp] theorem State.setPoll_q_len (t0 tmo : Word64) (l : PollLabel) : (s.setPoll t0 tmo l).q.len = s.q.len := rfl
@[simp] theorem State.setPoll_q_cur (t0 tmo : Word64) (l : PollLabel) : (s.setPoll t0 tmo l).q.cur = s.q.cur := rfl
@[simp] theorem State.setPoll_q_doneBytes (t0 tmo : Word64) (l : PollLabel) :
    (s.setPoll t0 tmo l).q.doneBytes = s.q.doneBytes := rfl
@[simp] theorem State.setPoll_q_chunk (t0 tmo : Word64) (l : PollLabel) : (s.setPoll t0 tmo l).q.chunk = s.q.chunk := rfl
@[simp] theorem State.setPoll_q_t0 (t0 tmo : Word64) (l : PollLabel) : (s.setPoll t0 tmo l).q.t0 = t0 := rfl
@[simp] theorem State.setPoll_q_tmo (t0 tmo : Word64) (l : PollLabel) : (s.setPoll t0 tmo l).q.tmo = tmo := rfl
@[simp] theorem State.setPoll_q_srOld (t0 tmo : Word64) (l : PollLabel) : (s.setPoll t0 tmo l).q.srOld = s.q.srOld := rfl
@[simp] theorem State.setPoll_q_srNew (t0 tmo : Word64) (l : PollLabel) : (s.setPoll t0 tmo l).q.srNew = s.q.srNew := rfl
@[simp] theorem State.setPoll_q_reg (t0 tmo : Word64) (l : PollLabel) : (s.setPoll t0 tmo l).q.reg = s.q.reg := rfl
@[simp] theorem State.setPoll_q_err (t0 tmo : Word64) (l : PollLabel) : (s.setPoll t0 tmo l).q.err = s.q.err := rfl
@[simp] theorem State.setPoll_q_ret (t0 tmo : Word64) (l : PollLabel) : (s.setPoll t0 tmo l).q.ret = l := rfl
@[simp] theorem State.setPoll_q_fsm (t0 tmo : Word64) (l : PollLabel) : (s.setPoll t0 tmo l).q.fsm = s.q.fsm := rfl
@[simp] theorem State.setPoll_q_idbuf (t0 tmo : Word64) (l : PollLabel) : (s.setPoll t0 tmo l).q.idbuf = s.q.idbuf := rfl
@[simp] theorem State.setPoll_q_cause (t0 tmo : Word64) (l : PollLabel) : (s.setPoll t0 tmo l).q.cause = s.q.cause := rfl
@[simp] theorem State.setPoll_rsp (t0 tmo : Word64) (l : PollLabel) : (s.setPoll t0 tmo l).rsp = s.rsp := rfl
@[simp] theorem State.setPoll_wbuf (t0 tmo : Word64) (l : PollLabel) : (s.setPoll t0 tmo l).wbuf = s.wbuf := rfl
@[simp] theorem State.setPoll_hist (t0 tmo : Word64) (l : PollLabel) : (s.setPoll t0 tmo l).hist = s.hist := rfl
@[simp] theorem State.setPoll_env (t0 tmo : Word64) (l : PollLabel) : (s.setPoll t0 tmo l).env = s.env := rfl

/-! ## `setSrOld` -/

@[simp] theorem State.setSrOld_cfg (b : Byte) : (s.setSrOld b).cfg = s.cfg := rfl
@[simp] theorem State.setSrOld_dev (b : Byte) : (s.setSrOld b).dev = s.dev := rfl
@[simp] theorem State.setSrOld_q_op (b : Byte) : (s.setSrOld b).q.op = s.q.op := rfl
@[simp] theorem State.setSrOld_q_off (b : Byte) : (s.setSrOld b).q.off = s.q.off := rfl
@[simp] theorem State.setSrOld_q_len (b : Byte) : (s.setSrOld b).q.len = s.q.len := rfl
@[simp] theorem State.setSrOld_q_cur (b : Byte) : (s.setSrOld b).q.cur = s.q.cur := rfl
@[simp] theorem State.setSrOld_q_doneBytes (b : Byte) : (s.setSrOld b).q.doneBytes = s.q.doneBytes := rfl
@[simp] theorem State.setSrOld_q_chunk (b : Byte) : (s.setSrOld b).q.chunk = s.q.chunk := rfl
@[simp] theorem State.setSrOld_q_t0 (b : Byte) : (s.setSrOld b).q.t0 = s.q.t0 := rfl
@[simp] theorem State.setSrOld_q_tmo (b : Byte) : (s.setSrOld b).q.tmo = s.q.tmo := rfl
@[simp] theorem State.setSrOld_q_srOld (b : Byte) : (s.setSrOld b).q.srOld = b := rfl
@[simp] theorem State.setSrOld_q_srNew (b : Byte) : (s.setSrOld b).q.srNew = s.q.srNew := rfl
@[simp] theorem State.setSrOld_q_reg (b : Byte) : (s.setSrOld b).q.reg = s.q.reg := rfl
@[simp] theorem State.setSrOld_q_err (b : Byte) : (s.setSrOld b).q.err = s.q.err := rfl
@[simp] theorem State.setSrOld_q_ret (b : Byte) : (s.setSrOld b).q.ret = s.q.ret := rfl
@[simp] theorem State.setSrOld_q_fsm (b : Byte) : (s.setSrOld b).q.fsm = s.q.fsm := rfl
@[simp] theorem State.setSrOld_q_idbuf (b : Byte) : (s.setSrOld b).q.idbuf = s.q.idbuf := rfl
@[simp] theorem State.setSrOld_q_cause (b : Byte) : (s.setSrOld b).q.cause = s.q.cause := rfl
@[simp] theorem State.setSrOld_rsp (b : Byte) : (s.setSrOld b).rsp = s.rsp := rfl
@[simp] theorem State.setSrOld_wbuf (b : Byte) : (s.setSrOld b).wbuf = s.wbuf := rfl
@[simp] theorem State.setSrOld_hist (b : Byte) : (s.setSrOld b).hist = s.hist := rfl
@[simp] theorem State.setSrOld_env (b : Byte) : (s.setSrOld b).env = s.env := rfl

/-! ## `setSrNew` -/

@[simp] theorem State.setSrNew_cfg (b : Byte) : (s.setSrNew b).cfg = s.cfg := rfl
@[simp] theorem State.setSrNew_dev (b : Byte) : (s.setSrNew b).dev = s.dev := rfl
@[simp] theorem State.setSrNew_q_op (b : Byte) : (s.setSrNew b).q.op = s.q.op := rfl
@[simp] theorem State.setSrNew_q_off (b : Byte) : (s.setSrNew b).q.off = s.q.off := rfl
@[simp] theorem State.setSrNew_q_len (b : Byte) : (s.setSrNew b).q.len = s.q.len := rfl
@[simp] theorem State.setSrNew_q_cur (b : Byte) : (s.setSrNew b).q.cur = s.q.cur := rfl
@[simp] theorem State.setSrNew_q_doneBytes (b : Byte) : (s.setSrNew b).q.doneBytes = s.q.doneBytes := rfl
@[simp] theorem State.setSrNew_q_chunk (b : Byte) : (s.setSrNew b).q.chunk = s.q.chunk := rfl
@[simp] theorem State.setSrNew_q_t0 (b : Byte) : (s.setSrNew b).q.t0 = s.q.t0 := rfl
@[simp] theorem State.setSrNew_q_tmo (b : Byte) : (s.setSrNew b).q.tmo = s.q.tmo := rfl
@[simp] theorem State.setSrNew_q_srOld (b : Byte) : (s.setSrNew b).q.srOld = s.q.srOld := rfl
@[simp] theorem State.setSrNew_q_srNew (b : Byte) : (s.setSrNew b).q.srNew = b := rfl
@[simp] theorem State.setSrNew_q_reg (b : Byte) : (s.setSrNew b).q.reg = s.q.reg := rfl
@[simp] theorem State.setSrNew_q_err (b : Byte) : (s.setSrNew b).q.err = s.q.err := rfl
@[simp] theorem State.setSrNew_q_ret (b : Byte) : (s.setSrNew b).q.ret = s.q.ret := rfl
@[simp] theorem State.setSrNew_q_fsm (b : Byte) : (s.setSrNew b).q.fsm = s.q.fsm := rfl
@[simp] theorem State.setSrNew_q_idbuf (b : Byte) : (s.setSrNew b).q.idbuf = s.q.idbuf := rfl
@[simp] theorem State.setSrNew_q_cause (b : Byte) : (s.setSrNew b).q.cause = s.q.cause := rfl
@[simp] theorem State.setSrNew_rsp (b : Byte) : (s.setSrNew b).rsp = s.rsp := rfl
@[simp] theorem State.setSrNew_wbuf (b : Byte) : (s.setSrNew b).wbuf = s.wbuf := rfl
@[simp] theorem State.setSrNew_hist (b : Byte) : (s.setSrNew b).hist = s.hist := rfl
@[simp] theorem State.setSrNew_env (b : Byte) : (s.setSrNew b).env = s.env := rfl

/-! ## `setReg` -/

@[simp] theorem State.setReg_cfg (b : Byte) : (s.setReg b).cfg = s.cfg := rfl
@[simp] theorem State.setReg_dev (b : Byte) : (s.setReg b).dev = s.dev := rfl
@[simp] theorem State.setReg_q_op (b : Byte) : (s.setReg b).q.op = s.q.op := rfl
@[simp] theorem State.setReg_q_off (b : Byte) : (s.setReg b).q.off = s.q.off := rfl
@[simp] theorem State.setReg_q_len (b : Byte) : (s.setReg b).q.len = s.q.len := rfl
@[simp] theorem State.setReg_q_cur (b : Byte) : (s.setReg b).q.cur = s.q.cur := rfl
@[simp] theorem State.setReg_q_doneBytes (b : Byte) : (s.setReg b).q.doneBytes = s.q.doneBytes := rfl
@[simp] theorem State.setReg_q_chunk (b : Byte) : (s.setReg b).q.chunk = s.q.chunk := rfl
@[simp] theorem State.setReg_q_t0 (b : Byte) : (s.setReg b).q.t0 = s.q.t0 := rfl
@[simp] theorem State.setReg_q_tmo (b : Byte) : (s.setReg b).q.tmo = s.q.tmo := rfl
@[simp] theorem State.setReg_q_srOld (b : Byte) : (s.setReg b).q.srOld = s.q.srOld := rfl
@[simp] theorem State.setReg_q_srNew (b : Byte) : (s.setReg b).q.srNew = s.q.srNew := rfl
@[simp] theorem State.setReg_q_reg (b : Byte) : (s.setReg b).q.reg = b := rfl
@[simp] theorem State.setReg_q_err (b : Byte) : (s.setReg b).q.err = s.q.err := rfl
@[simp] theorem State.setReg_q_ret (b : Byte) : (s.setReg b).q.ret = s.q.ret := rfl
@[simp] theorem State.setReg_q_fsm (b : Byte) : (s.setReg b).q.fsm = s.q.fsm := rfl
@[simp] theorem State.setReg_q_idbuf (b : Byte) : (s.setReg b).q.idbuf = s.q.idbuf := rfl
@[simp] theorem State.setReg_q_cause (b : Byte) : (s.setReg b).q.cause = s.q.cause := rfl
@[simp] theorem State.setReg_rsp (b : Byte) : (s.setReg b).rsp = s.rsp := rfl
@[simp] theorem State.setReg_wbuf (b : Byte) : (s.setReg b).wbuf = s.wbuf := rfl
@[simp] theorem State.setReg_hist (b : Byte) : (s.setReg b).hist = s.hist := rfl
@[simp] theorem State.setReg_env (b : Byte) : (s.setReg b).env = s.env := rfl

/-! ## `setErr` -/

@[simp] theorem State.setErr_cfg (e : Status) : (s.setErr e).cfg = s.cfg := rfl
@[simp] theorem State.setErr_dev (e : Status) : (s.setErr e).dev = s.dev := rfl
@[simp] theorem State.setErr_q_op (e : Status) : (s.setErr e).q.op = s.q.op := rfl
@[simp] theorem State.setErr_q_off (e : Status) : (s.setErr e).q.off = s.q.off := rfl
@[simp] theorem State.setErr_q_len (e : Status) : (s.setErr e).q.len = s.q.len := rfl
@[simp] theorem State.setErr_q_cur (e : Status) : (s.setErr e).q.cur = s.q.cur := rfl
@[simp] theorem State.setErr_q_doneBytes (e : Status) : (s.setErr e).q.doneBytes = s.q.doneBytes := rfl
@[simp] theorem State.setErr_q_chunk (e : Status) : (s.setErr e).q.chunk = s.q.chunk := rfl
@[simp] theorem State.setErr_q_t0 (e : Status) : (s.setErr e).q.t0 = s.q.t0 := rfl
@[simp] theorem State.setErr_q_tmo (e : Status) : (s.setErr e).q.tmo = s.q.tmo := rfl
@[simp] theorem State.setErr_q_srOld (e : Status) : (s.setErr e).q.srOld = s.q.srOld := rfl
@[simp] theorem State.setErr_q_srNew (e : Status) : (s.setErr e).q.srNew = s.q.srNew := rfl
@[simp] theorem State.setErr_q_reg (e : Status) : (s.setErr e).q.reg = s.q.reg := rfl
@[simp] theorem State.setErr_q_err (e : Status) : (s.setErr e).q.err = e := rfl
@[simp] theorem State.setErr_q_ret (e : Status) : (s.setErr e).q.ret = s.q.ret := rfl
@[simp] theorem State.setErr_q_fsm (e : Status) : (s.setErr e).q.fsm = s.q.fsm := rfl
@[simp] theorem State.setErr_q_idbuf (e : Status) : (s.setErr e).q.idbuf = s.q.idbuf := rfl
@[simp] theorem State.setErr_q_cause (e : Status) : (s.setErr e).q.cause = s.q.cause := rfl
@[simp] theorem State.setErr_rsp (e : Status) : (s.setErr e).rsp = s.rsp := rfl
@[simp] theorem State.setErr_wbuf (e : Status) : (s.setErr e).wbuf = s.wbuf := rfl
@[simp] theorem State.setErr_hist (e : Status) : (s.setErr e).hist = s.hist := rfl
@[simp] theorem State.setErr_env (e : Status) : (s.setErr e).env = s.env := rfl

/-! ## `setIdbuf` -/

@[simp] theorem State.setIdbuf_cfg (rx : List Byte) : (s.setIdbuf rx).cfg = s.cfg := rfl
@[simp] theorem State.setIdbuf_dev (rx : List Byte) : (s.setIdbuf rx).dev = s.dev := rfl
@[simp] theorem State.setIdbuf_q_op (rx : List Byte) : (s.setIdbuf rx).q.op = s.q.op := rfl
@[simp] theorem State.setIdbuf_q_off (rx : List Byte) : (s.setIdbuf rx).q.off = s.q.off := rfl
@[simp] theorem State.setIdbuf_q_len (rx : List Byte) : (s.setIdbuf rx).q.len = s.q.len := rfl
@[simp] theorem State.setIdbuf_q_cur (rx : List Byte) : (s.setIdbuf rx).q.cur = s.q.cur := rfl
@[simp] theorem State.setIdbuf_q_doneBytes (rx : List Byte) : (s.setIdbuf rx).q.doneBytes = s.q.doneBytes := rfl
@[simp] theorem State.setIdbuf_q_chunk (rx : List Byte) : (s.setIdbuf rx).q.chunk = s.q.chunk := rfl
@[simp] theorem State.setIdbuf_q_t0 (rx : List Byte) : (s.setIdbuf rx).q.t0 = s.q.t0 := rfl
@[simp] theorem State.setIdbuf_q_tmo (rx : List Byte) : (s.setIdbuf rx).q.tmo = s.q.tmo := rfl
@[simp] theorem State.setIdbuf_q_srOld (rx : List Byte) : (s.setIdbuf rx).q.srOld = s.q.srOld := rfl
@[simp] theorem State.setIdbuf_q_srNew (rx : List Byte) : (s.setIdbuf rx).q.srNew = s.q.srNew := rfl
@[simp] theorem State.setIdbuf_q_reg (rx : List Byte) : (s.setIdbuf rx).q.reg = s.q.reg := rfl
@[simp] theorem State.setIdbuf_q_err (rx : List Byte) : (s.setIdbuf rx).q.err = s.q.err := rfl
@[simp] theorem State.setIdbuf_q_ret (rx : List Byte) : (s.setIdbuf rx).q.ret = s.q.ret := rfl
@[simp] theorem State.setIdbuf_q_fsm (rx : List Byte) : (s.setIdbuf rx).q.fsm = s.q.fsm := rfl
@[simp] theorem State.setIdbuf_q_idbuf (rx : List Byte) : (s.setIdbuf rx).q.idbuf = rx := rfl
@[simp] theorem State.setIdbuf_q_cause (rx : List Byte) : (s.setIdbuf rx).q.cause = s.q.cause := rfl
@[simp] theorem State.setIdbuf_rsp (rx : List Byte) : (s.setIdbuf rx).rsp = s.rsp := rfl
@[simp] theorem State.setIdbuf_wbuf (rx : List Byte) : (s.setIdbuf rx).wbuf = s.wbuf := rfl
@[simp] theorem State.setIdbuf_hist (rx : List Byte) : (s.setIdbuf rx).hist = s.hist := rfl
@[simp] theorem State.setIdbuf_env (rx : List Byte) : (s.setIdbuf rx).env = s.env := rfl

/-! ## `setCause` -/

@[simp] theorem State.setCause_cfg (c : Cause) : (s.setCause c).cfg = s.cfg := rfl
@[simp] theorem State.setCause_dev (c : Cause) : (s.setCause c).dev = s.dev := rfl
@[simp] theorem State.setCause_q_op (c : Cause) : (s.setCause c).q.op = s.q.op := rfl
@[simp] theorem State.setCause_q_off (c : Cause) : (s.setCause c).q.off = s.q.off := rfl
@[simp] theorem State.setCause_q_len (c : Cause) : (s.setCause c).q.len = s.q.len := rfl
@[simp] theorem State.setCause_q_cur (c : Cause) : (s.setCause c).q.cur = s.q.cur := rfl
@[simp] theorem State.setCause_q_doneBytes (c : Cause) : (s.setCause c).q.doneBytes = s.q.doneBytes := rfl
@[simp] theorem State.setCause_q_chunk (c : Cause) : (s.setCause c).q.chunk = s.q.chunk := rfl
@[simp] theorem State.setCause_q_t0 (c : Cause) : (s.setCause c).q.t0 = s.q.t0 := rfl
@[simp] theorem State.setCause_q_tmo (c : Cause) : (s.setCause c).q.tmo = s.q.tmo := rfl
@[simp] theorem State.setCause_q_srOld (c : Cause) : (s.setCause c).q.srOld = s.q.srOld := rfl
@[simp] theorem State.setCause_q_srNew (c : Cause) : (s.setCause c).q.srNew = s.q.srNew := rfl
@[simp] theorem State.setCause_q_reg (c : Cause) : (s.setCause c).q.reg = s.q.reg := rfl
@[simp] theorem State.setCause_q_err (c : Cause) : (s.setCause c).q.err = s.q.err := rfl
@[simp] theorem State.setCause_q_ret (c : Cause) : (s.setCause c).q.ret = s.q.ret := rfl
@[simp] theorem State.setCause_q_fsm (c : Cause) : (s.setCause c).q.fsm = s.q.fsm := rfl
@[simp] theorem State.setCause_q_idbuf (c : Cause) : (s.setCause c).q.idbuf = s.q.idbuf := rfl
@[simp] theorem State.setCause_q_cause (c : Cause) : (s.setCause c).q.cause = c := rfl
@[simp] theorem State.setCause_rsp (c : Cause) : (s.setCause c).rsp = s.rsp := rfl
@[simp] theorem State.setCause_wbuf (c : Cause) : (s.setCause c).wbuf = s.wbuf := rfl
@[simp] theorem State.setCause_hist (c : Cause) : (s.setCause c).hist = s.hist := rfl
@[simp] theorem State.setCause_env (c : Cause) : (s.setCause c).env = s.env := rfl

/-! ## `setDev` -/

@[simp] theorem State.setDev_cfg (d : Dev) : (s.setDev d).cfg = s.cfg := rfl
@[simp] theorem State.setDev_dev (d : Dev) : (s.setDev d).dev = d := rfl
@[simp] theorem State.setDev_q (d : Dev) : (s.setDev d).q = s.q := rfl
@[simp] theorem State.setDev_rsp (d : Dev) : (s.setDev d).rsp = s.rsp := rfl
@[simp] theorem State.setDev_wbuf (d : Dev) : (s.setDev d).wbuf = s.wbuf := rfl
@[simp] theorem State.setDev_hist (d : Dev) : (s.setDev d).hist = s.hist := rfl
@[simp] theorem State.setDev_env (d : Dev) : (s.setDev d).env = s.env := rfl

/-! ## `setIdentified` -/

@[simp] theorem State.setIdentified_cfg (b : Bool) : (s.setIdentified b).cfg = s.cfg := rfl
@[simp] theorem State.setIdentified_dev_identified (b : Bool) : (s.setIdentified b).dev.identified = b := rfl
@[simp] theorem State.setIdentified_dev_desc (b : Bool) : (s.setIdentified b).dev.desc = s.dev.desc := rfl
@[simp] theorem State.setIdentified_dev_readOpcode (b : Bool) :
    (s.setIdentified b).dev.readOpcode = s.dev.readOpcode := rfl
@[simp] theorem State.setIdentified_dev_programOpcode (b : Bool) :
    (s.setIdentified b).dev.programOpcode = s.dev.programOpcode := rfl
@[simp] theorem State.setIdentified_dev_eraseOpcode (b : Bool) :
    (s.setIdentified b).dev.eraseOpcode = s.dev.eraseOpcode := rfl
@[simp] theorem State.setIdentified_dev_addrWidth (b : Bool) :
    (s.setIdentified b).dev.addrWidth = s.dev.addrWidth := rfl
@[simp] theorem State.setIdentified_dev_readDummy (b : Bool) :
    (s.setIdentified b).dev.readDummy = s.dev.readDummy := rfl
@[simp] theorem State.setIdentified_dev_readMode (b : Bool) : (s.setIdentified b).dev.readMode = s.dev.readMode := rfl
@[simp] theorem State.setIdentified_dev_writeMode (b : Bool) :
    (s.setIdentified b).dev.writeMode = s.dev.writeMode := rfl
@[simp] theorem State.setIdentified_dev_pageSize (b : Bool) : (s.setIdentified b).dev.pageSize = s.dev.pageSize := rfl
@[simp] theorem State.setIdentified_dev_sectorSize (b : Bool) :
    (s.setIdentified b).dev.sectorSize = s.dev.sectorSize := rfl
@[simp] theorem State.setIdentified_dev_eraseSize (b : Bool) :
    (s.setIdentified b).dev.eraseSize = s.dev.eraseSize := rfl
@[simp] theorem State.setIdentified_dev_capacity (b : Bool) : (s.setIdentified b).dev.capacity = s.dev.capacity := rfl
@[simp] theorem State.setIdentified_dev_progVariant (b : Bool) :
    (s.setIdentified b).dev.progVariant = s.dev.progVariant := rfl
@[simp] theorem State.setIdentified_dev_protVariant (b : Bool) :
    (s.setIdentified b).dev.protVariant = s.dev.protVariant := rfl
@[simp] theorem State.setIdentified_dev_useFsr (b : Bool) : (s.setIdentified b).dev.useFsr = s.dev.useFsr := rfl
@[simp] theorem State.setIdentified_dev_window (b : Bool) : (s.setIdentified b).dev.window = s.dev.window := rfl
@[simp] theorem State.setIdentified_dev_cmdbuf (b : Bool) : (s.setIdentified b).dev.cmdbuf = s.dev.cmdbuf := rfl
@[simp] theorem State.setIdentified_q (b : Bool) : (s.setIdentified b).q = s.q := rfl
@[simp] theorem State.setIdentified_rsp (b : Bool) : (s.setIdentified b).rsp = s.rsp := rfl
@[simp] theorem State.setIdentified_wbuf (b : Bool) : (s.setIdentified b).wbuf = s.wbuf := rfl
@[simp] theorem State.setIdentified_hist (b : Bool) : (s.setIdentified b).hist = s.hist := rfl
@[simp] theorem State.setIdentified_env (b : Bool) : (s.setIdentified b).env = s.env := rfl

/-! ## `setFail` -/

@[simp] theorem State.setFail_cfg (fo fl : Word64) : (s.setFail fo fl).cfg = s.cfg := rfl
@[simp] theorem State.setFail_dev (fo fl : Word64) : (s.setFail fo fl).dev = s.dev := rfl
@[simp] theorem State.setFail_q (fo fl : Word64) : (s.setFail fo fl).q = s.q := rfl
@[simp] theorem State.setFail_rsp_status (fo fl : Word64) : (s.setFail fo fl).rsp.status = s.rsp.status := rfl
@[simp] theorem State.setFail_rsp_count (fo fl : Word64) : (s.setFail fo fl).rsp.count = s.rsp.count := rfl
@[simp] theorem State.setFail_rsp_failOff (fo fl : Word64) : (s.setFail fo fl).rsp.failOff = fo := rfl
@[simp] theorem State.setFail_rsp_failLen (fo fl : Word64) : (s.setFail fo fl).rsp.failLen = fl := rfl
@[simp] theorem State.setFail_rsp_cause (fo fl : Word64) : (s.setFail fo fl).rsp.cause = s.rsp.cause := rfl
@[simp] theorem State.setFail_rsp_totalSize (fo fl : Word64) :
    (s.setFail fo fl).rsp.totalSize = s.rsp.totalSize := rfl
@[simp] theorem State.setFail_rsp_eraseUnitSize (fo fl : Word64) :
    (s.setFail fo fl).rsp.eraseUnitSize = s.rsp.eraseUnitSize := rfl
@[simp] theorem State.setFail_rsp_programUnitSize (fo fl : Word64) :
    (s.setFail fo fl).rsp.programUnitSize = s.rsp.programUnitSize := rfl
@[simp] theorem State.setFail_rsp_rbuf (fo fl : Word64) : (s.setFail fo fl).rsp.rbuf = s.rsp.rbuf := rfl
@[simp] theorem State.setFail_wbuf (fo fl : Word64) : (s.setFail fo fl).wbuf = s.wbuf := rfl
@[simp] theorem State.setFail_hist (fo fl : Word64) : (s.setFail fo fl).hist = s.hist := rfl
@[simp] theorem State.setFail_env (fo fl : Word64) : (s.setFail fo fl).env = s.env := rfl

/-! ## `setRbuf` -/

@[simp] theorem State.setRbuf_cfg (rx : List Byte) : (s.setRbuf rx).cfg = s.cfg := rfl
@[simp] theorem State.setRbuf_dev (rx : List Byte) : (s.setRbuf rx).dev = s.dev := rfl
@[simp] theorem State.setRbuf_q (rx : List Byte) : (s.setRbuf rx).q = s.q := rfl
@[simp] theorem State.setRbuf_rsp_status (rx : List Byte) : (s.setRbuf rx).rsp.status = s.rsp.status := rfl
@[simp] theorem State.setRbuf_rsp_count (rx : List Byte) : (s.setRbuf rx).rsp.count = s.rsp.count := rfl
@[simp] theorem State.setRbuf_rsp_failOff (rx : List Byte) : (s.setRbuf rx).rsp.failOff = s.rsp.failOff := rfl
@[simp] theorem State.setRbuf_rsp_failLen (rx : List Byte) : (s.setRbuf rx).rsp.failLen = s.rsp.failLen := rfl
@[simp] theorem State.setRbuf_rsp_cause (rx : List Byte) : (s.setRbuf rx).rsp.cause = s.rsp.cause := rfl
@[simp] theorem State.setRbuf_rsp_totalSize (rx : List Byte) : (s.setRbuf rx).rsp.totalSize = s.rsp.totalSize := rfl
@[simp] theorem State.setRbuf_rsp_eraseUnitSize (rx : List Byte) :
    (s.setRbuf rx).rsp.eraseUnitSize = s.rsp.eraseUnitSize := rfl
@[simp] theorem State.setRbuf_rsp_programUnitSize (rx : List Byte) :
    (s.setRbuf rx).rsp.programUnitSize = s.rsp.programUnitSize := rfl
@[simp] theorem State.setRbuf_rsp_rbuf (rx : List Byte) : (s.setRbuf rx).rsp.rbuf = rx := rfl
@[simp] theorem State.setRbuf_wbuf (rx : List Byte) : (s.setRbuf rx).wbuf = s.wbuf := rfl
@[simp] theorem State.setRbuf_hist (rx : List Byte) : (s.setRbuf rx).hist = s.hist := rfl
@[simp] theorem State.setRbuf_env (rx : List Byte) : (s.setRbuf rx).env = s.env := rfl

/-! ## `setGeometry` -/

@[simp] theorem State.setGeometry_cfg (a b c : Word64) : (s.setGeometry a b c).cfg = s.cfg := rfl
@[simp] theorem State.setGeometry_dev (a b c : Word64) : (s.setGeometry a b c).dev = s.dev := rfl
@[simp] theorem State.setGeometry_q (a b c : Word64) : (s.setGeometry a b c).q = s.q := rfl
@[simp] theorem State.setGeometry_rsp_status (a b c : Word64) : (s.setGeometry a b c).rsp.status = s.rsp.status := rfl
@[simp] theorem State.setGeometry_rsp_count (a b c : Word64) : (s.setGeometry a b c).rsp.count = s.rsp.count := rfl
@[simp] theorem State.setGeometry_rsp_failOff (a b c : Word64) :
    (s.setGeometry a b c).rsp.failOff = s.rsp.failOff := rfl
@[simp] theorem State.setGeometry_rsp_failLen (a b c : Word64) :
    (s.setGeometry a b c).rsp.failLen = s.rsp.failLen := rfl
@[simp] theorem State.setGeometry_rsp_cause (a b c : Word64) : (s.setGeometry a b c).rsp.cause = s.rsp.cause := rfl
@[simp] theorem State.setGeometry_rsp_totalSize (a b c : Word64) : (s.setGeometry a b c).rsp.totalSize = a := rfl
@[simp] theorem State.setGeometry_rsp_eraseUnitSize (a b c : Word64) :
    (s.setGeometry a b c).rsp.eraseUnitSize = b := rfl
@[simp] theorem State.setGeometry_rsp_programUnitSize (a b c : Word64) :
    (s.setGeometry a b c).rsp.programUnitSize = c := rfl
@[simp] theorem State.setGeometry_rsp_rbuf (a b c : Word64) : (s.setGeometry a b c).rsp.rbuf = s.rsp.rbuf := rfl
@[simp] theorem State.setGeometry_wbuf (a b c : Word64) : (s.setGeometry a b c).wbuf = s.wbuf := rfl
@[simp] theorem State.setGeometry_hist (a b c : Word64) : (s.setGeometry a b c).hist = s.hist := rfl
@[simp] theorem State.setGeometry_env (a b c : Word64) : (s.setGeometry a b c).env = s.env := rfl

/-! ## `afterSample` -/

@[simp] theorem State.afterSample_cfg : s.afterSample.cfg = s.cfg := rfl
@[simp] theorem State.afterSample_dev : s.afterSample.dev = s.dev := rfl
@[simp] theorem State.afterSample_q : s.afterSample.q = s.q := rfl
@[simp] theorem State.afterSample_rsp : s.afterSample.rsp = s.rsp := rfl
@[simp] theorem State.afterSample_wbuf : s.afterSample.wbuf = s.wbuf := rfl
@[simp] theorem State.afterSample_hist : s.afterSample.hist = s.hist ++ [.clock s.now] := rfl
@[simp] theorem State.afterSample_env_port : s.afterSample.env.port = s.env.port := rfl
@[simp] theorem State.afterSample_env_resetLine : s.afterSample.env.resetLine = s.env.resetLine := rfl
@[simp] theorem State.afterSample_env_transport : s.afterSample.env.transport = s.env.transport := rfl
@[simp] theorem State.afterSample_env_answers : s.afterSample.env.answers = s.env.answers := rfl
@[simp] theorem State.afterSample_env_samples : s.afterSample.env.samples = s.env.samples.tail := rfl
@[simp] theorem State.afterSample_env_lastSample : s.afterSample.env.lastSample = s.now := rfl
@[simp] theorem State.afterSample_env_lockAnswers : s.afterSample.env.lockAnswers = s.env.lockAnswers := rfl
@[simp] theorem State.afterSample_env_windowCopies : s.afterSample.env.windowCopies = s.env.windowCopies := rfl
@[simp] theorem State.afterSample_env_nXfer : s.afterSample.env.nXfer = s.env.nXfer := rfl
@[simp] theorem State.afterSample_env_nClock : s.afterSample.env.nClock = s.env.nClock + 1 := rfl
@[simp] theorem State.afterSample_env_nLock : s.afterSample.env.nLock = s.env.nLock := rfl
@[simp] theorem State.afterSample_env_nWindow : s.afterSample.env.nWindow = s.env.nWindow := rfl
@[simp] theorem State.afterSample_env_nFailedRead : s.afterSample.env.nFailedRead = s.env.nFailedRead := rfl

/-! ## `afterLockAnswer` -/

@[simp] theorem State.afterLockAnswer_cfg : s.afterLockAnswer.cfg = s.cfg := rfl
@[simp] theorem State.afterLockAnswer_dev : s.afterLockAnswer.dev = s.dev := rfl
@[simp] theorem State.afterLockAnswer_q : s.afterLockAnswer.q = s.q := rfl
@[simp] theorem State.afterLockAnswer_rsp : s.afterLockAnswer.rsp = s.rsp := rfl
@[simp] theorem State.afterLockAnswer_wbuf : s.afterLockAnswer.wbuf = s.wbuf := rfl
@[simp] theorem State.afterLockAnswer_hist : s.afterLockAnswer.hist = s.hist := rfl
@[simp] theorem State.afterLockAnswer_env_port : s.afterLockAnswer.env.port = s.env.port := rfl
@[simp] theorem State.afterLockAnswer_env_resetLine : s.afterLockAnswer.env.resetLine = s.env.resetLine := rfl
@[simp] theorem State.afterLockAnswer_env_transport : s.afterLockAnswer.env.transport = s.env.transport := rfl
@[simp] theorem State.afterLockAnswer_env_answers : s.afterLockAnswer.env.answers = s.env.answers := rfl
@[simp] theorem State.afterLockAnswer_env_samples : s.afterLockAnswer.env.samples = s.env.samples := rfl
@[simp] theorem State.afterLockAnswer_env_lastSample : s.afterLockAnswer.env.lastSample = s.env.lastSample := rfl
@[simp] theorem State.afterLockAnswer_env_lockAnswers :
    s.afterLockAnswer.env.lockAnswers = s.env.lockAnswers.tail := rfl
@[simp] theorem State.afterLockAnswer_env_windowCopies :
    s.afterLockAnswer.env.windowCopies = s.env.windowCopies := rfl
@[simp] theorem State.afterLockAnswer_env_nXfer : s.afterLockAnswer.env.nXfer = s.env.nXfer := rfl
@[simp] theorem State.afterLockAnswer_env_nClock : s.afterLockAnswer.env.nClock = s.env.nClock := rfl
@[simp] theorem State.afterLockAnswer_env_nLock : s.afterLockAnswer.env.nLock = s.env.nLock + 1 := rfl
@[simp] theorem State.afterLockAnswer_env_nWindow : s.afterLockAnswer.env.nWindow = s.env.nWindow := rfl
@[simp] theorem State.afterLockAnswer_env_nFailedRead : s.afterLockAnswer.env.nFailedRead = s.env.nFailedRead := rfl

/-! ## `afterWindow` -/

@[simp] theorem State.afterWindow_cfg : s.afterWindow.cfg = s.cfg := rfl
@[simp] theorem State.afterWindow_dev : s.afterWindow.dev = s.dev := rfl
@[simp] theorem State.afterWindow_q : s.afterWindow.q = s.q := rfl
@[simp] theorem State.afterWindow_rsp : s.afterWindow.rsp = s.rsp := rfl
@[simp] theorem State.afterWindow_wbuf : s.afterWindow.wbuf = s.wbuf := rfl
@[simp] theorem State.afterWindow_hist : s.afterWindow.hist = s.hist := rfl
@[simp] theorem State.afterWindow_env_port : s.afterWindow.env.port = s.env.port := rfl
@[simp] theorem State.afterWindow_env_resetLine : s.afterWindow.env.resetLine = s.env.resetLine := rfl
@[simp] theorem State.afterWindow_env_transport : s.afterWindow.env.transport = s.env.transport := rfl
@[simp] theorem State.afterWindow_env_answers : s.afterWindow.env.answers = s.env.answers := rfl
@[simp] theorem State.afterWindow_env_samples : s.afterWindow.env.samples = s.env.samples := rfl
@[simp] theorem State.afterWindow_env_lastSample : s.afterWindow.env.lastSample = s.env.lastSample := rfl
@[simp] theorem State.afterWindow_env_lockAnswers : s.afterWindow.env.lockAnswers = s.env.lockAnswers := rfl
@[simp] theorem State.afterWindow_env_windowCopies : s.afterWindow.env.windowCopies = s.env.windowCopies.tail := rfl
@[simp] theorem State.afterWindow_env_nXfer : s.afterWindow.env.nXfer = s.env.nXfer := rfl
@[simp] theorem State.afterWindow_env_nClock : s.afterWindow.env.nClock = s.env.nClock := rfl
@[simp] theorem State.afterWindow_env_nLock : s.afterWindow.env.nLock = s.env.nLock := rfl
@[simp] theorem State.afterWindow_env_nWindow : s.afterWindow.env.nWindow = s.env.nWindow + 1 := rfl
@[simp] theorem State.afterWindow_env_nFailedRead : s.afterWindow.env.nFailedRead = s.env.nFailedRead := rfl

/-! ## `spoilRbuf` -/

@[simp] theorem State.spoilRbuf_cfg : s.spoilRbuf.cfg = s.cfg := rfl
@[simp] theorem State.spoilRbuf_dev : s.spoilRbuf.dev = s.dev := rfl
@[simp] theorem State.spoilRbuf_q : s.spoilRbuf.q = s.q := rfl
@[simp] theorem State.spoilRbuf_rsp_status : s.spoilRbuf.rsp.status = s.rsp.status := rfl
@[simp] theorem State.spoilRbuf_rsp_count : s.spoilRbuf.rsp.count = s.rsp.count := rfl
@[simp] theorem State.spoilRbuf_rsp_failOff : s.spoilRbuf.rsp.failOff = s.rsp.failOff := rfl
@[simp] theorem State.spoilRbuf_rsp_failLen : s.spoilRbuf.rsp.failLen = s.rsp.failLen := rfl
@[simp] theorem State.spoilRbuf_rsp_cause : s.spoilRbuf.rsp.cause = s.rsp.cause := rfl
@[simp] theorem State.spoilRbuf_rsp_totalSize : s.spoilRbuf.rsp.totalSize = s.rsp.totalSize := rfl
@[simp] theorem State.spoilRbuf_rsp_eraseUnitSize : s.spoilRbuf.rsp.eraseUnitSize = s.rsp.eraseUnitSize := rfl
@[simp] theorem State.spoilRbuf_rsp_programUnitSize : s.spoilRbuf.rsp.programUnitSize = s.rsp.programUnitSize := rfl
@[simp] theorem State.spoilRbuf_rsp_rbuf : s.spoilRbuf.rsp.rbuf = Config.failedReadBuf s.env.nFailedRead := rfl
@[simp] theorem State.spoilRbuf_wbuf : s.spoilRbuf.wbuf = s.wbuf := rfl
@[simp] theorem State.spoilRbuf_hist : s.spoilRbuf.hist = s.hist := rfl
@[simp] theorem State.spoilRbuf_env_port : s.spoilRbuf.env.port = s.env.port := rfl
@[simp] theorem State.spoilRbuf_env_resetLine : s.spoilRbuf.env.resetLine = s.env.resetLine := rfl
@[simp] theorem State.spoilRbuf_env_transport : s.spoilRbuf.env.transport = s.env.transport := rfl
@[simp] theorem State.spoilRbuf_env_answers : s.spoilRbuf.env.answers = s.env.answers := rfl
@[simp] theorem State.spoilRbuf_env_samples : s.spoilRbuf.env.samples = s.env.samples := rfl
@[simp] theorem State.spoilRbuf_env_lastSample : s.spoilRbuf.env.lastSample = s.env.lastSample := rfl
@[simp] theorem State.spoilRbuf_env_lockAnswers : s.spoilRbuf.env.lockAnswers = s.env.lockAnswers := rfl
@[simp] theorem State.spoilRbuf_env_windowCopies : s.spoilRbuf.env.windowCopies = s.env.windowCopies := rfl
@[simp] theorem State.spoilRbuf_env_nXfer : s.spoilRbuf.env.nXfer = s.env.nXfer := rfl
@[simp] theorem State.spoilRbuf_env_nClock : s.spoilRbuf.env.nClock = s.env.nClock := rfl
@[simp] theorem State.spoilRbuf_env_nLock : s.spoilRbuf.env.nLock = s.env.nLock := rfl
@[simp] theorem State.spoilRbuf_env_nWindow : s.spoilRbuf.env.nWindow = s.env.nWindow := rfl
@[simp] theorem State.spoilRbuf_env_nFailedRead : s.spoilRbuf.env.nFailedRead = s.env.nFailedRead + 1 := rfl

/-! ## `endWith` -/

@[simp] theorem State.endWith_cfg (st : Status) (n fo fl : Word64) : (s.endWith st n fo fl).cfg = s.cfg := rfl
@[simp] theorem State.endWith_dev (st : Status) (n fo fl : Word64) : (s.endWith st n fo fl).dev = s.dev := rfl
@[simp] theorem State.endWith_q_op (st : Status) (n fo fl : Word64) : (s.endWith st n fo fl).q.op = s.q.op := rfl
@[simp] theorem State.endWith_q_off (st : Status) (n fo fl : Word64) : (s.endWith st n fo fl).q.off = s.q.off := rfl
@[simp] theorem State.endWith_q_len (st : Status) (n fo fl : Word64) : (s.endWith st n fo fl).q.len = s.q.len := rfl
@[simp] theorem State.endWith_q_cur (st : Status) (n fo fl : Word64) : (s.endWith st n fo fl).q.cur = s.q.cur := rfl
@[simp] theorem State.endWith_q_doneBytes (st : Status) (n fo fl : Word64) :
    (s.endWith st n fo fl).q.doneBytes = s.q.doneBytes := rfl
@[simp] theorem State.endWith_q_chunk (st : Status) (n fo fl : Word64) :
    (s.endWith st n fo fl).q.chunk = s.q.chunk := rfl
@[simp] theorem State.endWith_q_t0 (st : Status) (n fo fl : Word64) : (s.endWith st n fo fl).q.t0 = s.q.t0 := rfl
@[simp] theorem State.endWith_q_tmo (st : Status) (n fo fl : Word64) : (s.endWith st n fo fl).q.tmo = s.q.tmo := rfl
@[simp] theorem State.endWith_q_srOld (st : Status) (n fo fl : Word64) :
    (s.endWith st n fo fl).q.srOld = s.q.srOld := rfl
@[simp] theorem State.endWith_q_srNew (st : Status) (n fo fl : Word64) :
    (s.endWith st n fo fl).q.srNew = s.q.srNew := rfl
@[simp] theorem State.endWith_q_reg (st : Status) (n fo fl : Word64) : (s.endWith st n fo fl).q.reg = s.q.reg := rfl
@[simp] theorem State.endWith_q_err (st : Status) (n fo fl : Word64) : (s.endWith st n fo fl).q.err = s.q.err := rfl
@[simp] theorem State.endWith_q_ret (st : Status) (n fo fl : Word64) : (s.endWith st n fo fl).q.ret = s.q.ret := rfl
@[simp] theorem State.endWith_q_fsm (st : Status) (n fo fl : Word64) : (s.endWith st n fo fl).q.fsm = .idle := rfl
@[simp] theorem State.endWith_q_idbuf (st : Status) (n fo fl : Word64) :
    (s.endWith st n fo fl).q.idbuf = s.q.idbuf := rfl
@[simp] theorem State.endWith_q_cause (st : Status) (n fo fl : Word64) :
    (s.endWith st n fo fl).q.cause = s.q.cause := rfl
@[simp] theorem State.endWith_rsp_status (st : Status) (n fo fl : Word64) :
    (s.endWith st n fo fl).rsp.status = st := rfl
@[simp] theorem State.endWith_rsp_count (st : Status) (n fo fl : Word64) : (s.endWith st n fo fl).rsp.count = n := rfl
@[simp] theorem State.endWith_rsp_failOff (st : Status) (n fo fl : Word64) :
    (s.endWith st n fo fl).rsp.failOff = if st = .ok then s.rsp.failOff else fo := rfl
@[simp] theorem State.endWith_rsp_failLen (st : Status) (n fo fl : Word64) :
    (s.endWith st n fo fl).rsp.failLen = if st = .ok then s.rsp.failLen else fl := rfl
@[simp] theorem State.endWith_rsp_cause (st : Status) (n fo fl : Word64) :
    (s.endWith st n fo fl).rsp.cause = if st = .transportError then s.q.cause else s.rsp.cause := rfl
@[simp] theorem State.endWith_rsp_totalSize (st : Status) (n fo fl : Word64) :
    (s.endWith st n fo fl).rsp.totalSize = s.rsp.totalSize := rfl
@[simp] theorem State.endWith_rsp_eraseUnitSize (st : Status) (n fo fl : Word64) :
    (s.endWith st n fo fl).rsp.eraseUnitSize = s.rsp.eraseUnitSize := rfl
@[simp] theorem State.endWith_rsp_programUnitSize (st : Status) (n fo fl : Word64) :
    (s.endWith st n fo fl).rsp.programUnitSize = s.rsp.programUnitSize := rfl
@[simp] theorem State.endWith_rsp_rbuf (st : Status) (n fo fl : Word64) :
    (s.endWith st n fo fl).rsp.rbuf = s.rsp.rbuf := rfl
@[simp] theorem State.endWith_wbuf (st : Status) (n fo fl : Word64) : (s.endWith st n fo fl).wbuf = s.wbuf := rfl
@[simp] theorem State.endWith_hist (st : Status) (n fo fl : Word64) : (s.endWith st n fo fl).hist = s.hist := rfl
@[simp] theorem State.endWith_env (st : Status) (n fo fl : Word64) : (s.endWith st n fo fl).env = s.env := rfl

/-! ## `takeRecord` -/

@[simp] theorem State.takeRecord_cfg : s.takeRecord.cfg = s.cfg := rfl
@[simp] theorem State.takeRecord_dev : s.takeRecord.dev = s.dev := rfl
@[simp] theorem State.takeRecord_q : s.takeRecord.q = s.q := rfl
@[simp] theorem State.takeRecord_rsp : s.takeRecord.rsp = s.rsp := rfl
@[simp] theorem State.takeRecord_wbuf : s.takeRecord.wbuf = s.wbuf := rfl
@[simp] theorem State.takeRecord_hist : s.takeRecord.hist = s.hist := rfl
@[simp] theorem State.takeRecord_env_port : s.takeRecord.env.port = s.env.port.tail := rfl
@[simp] theorem State.takeRecord_env_resetLine : s.takeRecord.env.resetLine = s.env.resetLine := rfl
@[simp] theorem State.takeRecord_env_transport : s.takeRecord.env.transport = s.env.transport := rfl
@[simp] theorem State.takeRecord_env_answers : s.takeRecord.env.answers = s.env.answers := rfl
@[simp] theorem State.takeRecord_env_samples : s.takeRecord.env.samples = s.env.samples := rfl
@[simp] theorem State.takeRecord_env_lastSample : s.takeRecord.env.lastSample = s.env.lastSample := rfl
@[simp] theorem State.takeRecord_env_lockAnswers : s.takeRecord.env.lockAnswers = s.env.lockAnswers := rfl
@[simp] theorem State.takeRecord_env_windowCopies : s.takeRecord.env.windowCopies = s.env.windowCopies := rfl
@[simp] theorem State.takeRecord_env_nXfer : s.takeRecord.env.nXfer = s.env.nXfer := rfl
@[simp] theorem State.takeRecord_env_nClock : s.takeRecord.env.nClock = s.env.nClock := rfl
@[simp] theorem State.takeRecord_env_nLock : s.takeRecord.env.nLock = s.env.nLock := rfl
@[simp] theorem State.takeRecord_env_nWindow : s.takeRecord.env.nWindow = s.env.nWindow := rfl
@[simp] theorem State.takeRecord_env_nFailedRead : s.takeRecord.env.nFailedRead = s.env.nFailedRead := rfl

end Sys2Proof.Machine
end

