-- ==== Sys2Proof/Laws/Ops.lean ====
section
/-!
SUPPORT. For each shared operation, what it can do, said once: the exchange, the split of an answer into "on Err" and
"on Ok", the poller's call, the end of a command, the common head.
-/

namespace Sys2Proof.Machine

open Sys2Proof

variable (s : State) (i : Instr) (x : Xfer)

/-! ## What an exchange leaves unchanged -/

@[simp] theorem State.transfer_cfg : (s.transfer i x).2.cfg = s.cfg := rfl
@[simp] theorem State.transfer_q : (s.transfer i x).2.q = s.q := rfl
@[simp] theorem State.transfer_rsp : (s.transfer i x).2.rsp = s.rsp := rfl
@[simp] theorem State.transfer_wbuf : (s.transfer i x).2.wbuf = s.wbuf := rfl
@[simp] theorem State.transfer_dev : (s.transfer i x).2.dev = { s.dev with cmdbuf := x.cmd } := rfl
@[simp] theorem State.transfer_hist : (s.transfer i x).2.hist = s.hist ++ [.xfer x (s.answerTo i x)] := rfl
@[simp] theorem State.transfer_env : (s.transfer i x).2.env = s.envAfter i := rfl
@[simp] theorem State.transfer_answer : (s.transfer i x).1 = s.answerTo i x := rfl

@[simp] theorem State.envAfter_port : (s.envAfter i).port = s.env.port := by
  unfold State.envAfter; repeat' split
  all_goals rfl

@[simp] theorem State.envAfter_resetLine : (s.envAfter i).resetLine = s.env.resetLine := by
  unfold State.envAfter; repeat' split
  all_goals rfl

@[simp] theorem State.envAfter_samples : (s.envAfter i).samples = s.env.samples := by
  unfold State.envAfter; repeat' split
  all_goals rfl

@[simp] theorem State.envAfter_lastSample : (s.envAfter i).lastSample = s.env.lastSample := by
  unfold State.envAfter; repeat' split
  all_goals rfl

@[simp] theorem State.envAfter_lockAnswers : (s.envAfter i).lockAnswers = s.env.lockAnswers := by
  unfold State.envAfter; repeat' split
  all_goals rfl

@[simp] theorem State.envAfter_windowCopies : (s.envAfter i).windowCopies = s.env.windowCopies := by
  unfold State.envAfter; repeat' split
  all_goals rfl

@[simp] theorem State.envAfter_nClock : (s.envAfter i).nClock = s.env.nClock := by
  unfold State.envAfter; repeat' split
  all_goals rfl

@[simp] theorem State.envAfter_nLock : (s.envAfter i).nLock = s.env.nLock := by
  unfold State.envAfter; repeat' split
  all_goals rfl

@[simp] theorem State.envAfter_nWindow : (s.envAfter i).nWindow = s.env.nWindow := by
  unfold State.envAfter; repeat' split
  all_goals rfl

@[simp] theorem State.envAfter_nFailedRead : (s.envAfter i).nFailedRead = s.env.nFailedRead := by
  unfold State.envAfter; repeat' split
  all_goals rfl

/-- Issuing a frame is its transfer. -/
theorem State.exchange_of_frame {s : State} {i : Instr} {x : Xfer} (h : encodeFrame s.cfg s.geom i = some x) :
    s.exchange i = s.transfer i x := by
  simp only [State.exchange, h]

/-- A host command is no frame. -/
theorem State.exchange_of_host {s : State} {i : Instr} (h : encodeFrame s.cfg s.geom i = none) :
    s.exchange i = (.ok [], s) := by
  simp only [State.exchange, h]

@[simp] theorem State.exchange_cfg : (s.exchange i).2.cfg = s.cfg := by
  unfold State.exchange; split <;> rfl

@[simp] theorem State.exchange_q : (s.exchange i).2.q = s.q := by
  unfold State.exchange; split <;> rfl

@[simp] theorem State.exchange_rsp : (s.exchange i).2.rsp = s.rsp := by
  unfold State.exchange; split <;> rfl

@[simp] theorem State.exchange_wbuf : (s.exchange i).2.wbuf = s.wbuf := by
  unfold State.exchange; split <;> rfl

@[simp] theorem State.exchange_dev_identified : (s.exchange i).2.dev.identified = s.dev.identified := by
  unfold State.exchange; split <;> rfl

@[simp] theorem State.exchange_dev_desc : (s.exchange i).2.dev.desc = s.dev.desc := by
  unfold State.exchange; split <;> rfl

@[simp] theorem State.exchange_dev_readOpcode : (s.exchange i).2.dev.readOpcode = s.dev.readOpcode := by
  unfold State.exchange; split <;> rfl

@[simp] theorem State.exchange_dev_programOpcode : (s.exchange i).2.dev.programOpcode = s.dev.programOpcode := by
  unfold State.exchange; split <;> rfl

@[simp] theorem State.exchange_dev_eraseOpcode : (s.exchange i).2.dev.eraseOpcode = s.dev.eraseOpcode := by
  unfold State.exchange; split <;> rfl

@[simp] theorem State.exchange_dev_addrWidth : (s.exchange i).2.dev.addrWidth = s.dev.addrWidth := by
  unfold State.exchange; split <;> rfl

@[simp] theorem State.exchange_dev_readDummy : (s.exchange i).2.dev.readDummy = s.dev.readDummy := by
  unfold State.exchange; split <;> rfl

@[simp] theorem State.exchange_dev_readMode : (s.exchange i).2.dev.readMode = s.dev.readMode := by
  unfold State.exchange; split <;> rfl

@[simp] theorem State.exchange_dev_writeMode : (s.exchange i).2.dev.writeMode = s.dev.writeMode := by
  unfold State.exchange; split <;> rfl

@[simp] theorem State.exchange_dev_pageSize : (s.exchange i).2.dev.pageSize = s.dev.pageSize := by
  unfold State.exchange; split <;> rfl

@[simp] theorem State.exchange_dev_sectorSize : (s.exchange i).2.dev.sectorSize = s.dev.sectorSize := by
  unfold State.exchange; split <;> rfl

@[simp] theorem State.exchange_dev_eraseSize : (s.exchange i).2.dev.eraseSize = s.dev.eraseSize := by
  unfold State.exchange; split <;> rfl

@[simp] theorem State.exchange_dev_capacity : (s.exchange i).2.dev.capacity = s.dev.capacity := by
  unfold State.exchange; split <;> rfl

@[simp] theorem State.exchange_dev_progVariant : (s.exchange i).2.dev.progVariant = s.dev.progVariant := by
  unfold State.exchange; split <;> rfl

@[simp] theorem State.exchange_dev_protVariant : (s.exchange i).2.dev.protVariant = s.dev.protVariant := by
  unfold State.exchange; split <;> rfl

@[simp] theorem State.exchange_dev_useFsr : (s.exchange i).2.dev.useFsr = s.dev.useFsr := by
  unfold State.exchange; split <;> rfl

@[simp] theorem State.exchange_dev_window : (s.exchange i).2.dev.window = s.dev.window := by
  unfold State.exchange; split <;> rfl

@[simp] theorem State.exchange_env_port : (s.exchange i).2.env.port = s.env.port := by
  unfold State.exchange; split <;> simp

@[simp] theorem State.exchange_env_resetLine : (s.exchange i).2.env.resetLine = s.env.resetLine := by
  unfold State.exchange; split <;> simp

@[simp] theorem State.exchange_env_samples : (s.exchange i).2.env.samples = s.env.samples := by
  unfold State.exchange; split <;> simp

@[simp] theorem State.exchange_env_lastSample : (s.exchange i).2.env.lastSample = s.env.lastSample := by
  unfold State.exchange; split <;> simp

@[simp] theorem State.exchange_env_lockAnswers : (s.exchange i).2.env.lockAnswers = s.env.lockAnswers := by
  unfold State.exchange; split <;> simp

@[simp] theorem State.exchange_env_windowCopies : (s.exchange i).2.env.windowCopies = s.env.windowCopies := by
  unfold State.exchange; split <;> simp

@[simp] theorem State.exchange_env_nClock : (s.exchange i).2.env.nClock = s.env.nClock := by
  unfold State.exchange; split <;> simp

@[simp] theorem State.exchange_env_nLock : (s.exchange i).2.env.nLock = s.env.nLock := by
  unfold State.exchange; split <;> simp

@[simp] theorem State.exchange_env_nWindow : (s.exchange i).2.env.nWindow = s.env.nWindow := by
  unfold State.exchange; split <;> simp

@[simp] theorem State.exchange_env_nFailedRead : (s.exchange i).2.env.nFailedRead = s.env.nFailedRead := by
  unfold State.exchange; split <;> simp

/-- An exchange writes `dev.cmdbuf`, the history and the environment, and nothing else. -/
theorem State.exchange_frame :
    (s.exchange i).2 = { s with dev := { s.dev with cmdbuf := (s.exchange i).2.dev.cmdbuf },
                                hist := (s.exchange i).2.hist, env := (s.exchange i).2.env } := by
  unfold State.exchange; split <;> rfl

/-- The history grows by at most the one exchange. -/
theorem State.exchange_hist :
    (s.exchange i).2.hist = s.hist ∨
      ∃ x, encodeFrame s.cfg s.geom i = some x ∧ (s.exchange i).2.hist = s.hist ++ [.xfer x (s.answerTo i x)] := by
  unfold State.exchange; split
  · exact .inr ⟨_, by assumption, rfl⟩
  · exact .inl rfl

/-! ## Answers -/

/-- An answer never holds more bytes than were asked for (20_memory.md rule R62). -/
theorem clipAnswer_length (rxn : Option Nat) (a : Answer) : (answerBytes (clipAnswer rxn a)).length ≤ rxn.getD 0 := by
  cases a with
  | err c => exact Nat.zero_le _
  | ok rx => exact List.length_take_le _ _

theorem State.answerTo_length : (answerBytes (s.answerTo i x)).length ≤ x.rxn.getD 0 := clipAnswer_length _ _

/-- On a failure `q.CAUSE` is written and the "on Err" column runs. -/
theorem State.resume_err {s : State} {a : Answer} {n : Nat} {c : Cause} (h : answerFailure n a = some c)
    (f : State → State) (k : List Byte → State → State) : s.resume a n f k = f (s.setCause c) := by
  simp only [State.resume, h]

/-- Otherwise the "on Ok" column runs on the bytes received. -/
theorem State.resume_ok {s : State} {a : Answer} {n : Nat} (h : answerFailure n a = none)
    (f : State → State) (k : List Byte → State → State) : s.resume a n f k = k (answerBytes a) s := by
  simp only [State.resume, h]

/-- Everything a resumed step can do. -/
theorem State.resume_cases (s : State) (a : Answer) (n : Nat) (f : State → State) (k : List Byte → State → State) :
    (∃ c, answerFailure n a = some c ∧ s.resume a n f k = f (s.setCause c)) ∨
      (answerFailure n a = none ∧ s.resume a n f k = k (answerBytes a) s) := by
  cases h : answerFailure n a with
  | none => exact .inr ⟨rfl, State.resume_ok h f k⟩
  | some c => exact .inl ⟨c, rfl, State.resume_err h f k⟩

/-- When an exchange that was to receive `n` bytes succeeded, it received at least `n`. -/
theorem length_of_answerFailure {n : Nat} {a : Answer} (h : answerFailure n a = none) :
    ∃ rx, a = .ok rx ∧ n ≤ rx.length := by
  cases a with
  | err c => simp [answerFailure] at h
  | ok rx =>
    refine ⟨rx, rfl, ?_⟩
    simp only [answerFailure] at h
    split at h
    · cases h
    · omega

/-- Nothing to receive: only `Err` is a failure. -/
@[simp] theorem answerFailure_zero_ok (rx : List Byte) : answerFailure 0 (.ok rx) = none := by
  simp [answerFailure]

/-! ## The clock -/

/-- A sample is never before the last one (60_exceptions.md rule R325). -/
theorem State.lastSample_le_now : s.env.lastSample ≤ s.now := Nat.le_max_left _ _

/-- An exchange takes no clock sample (42_readiness_poller.md rule R180). -/
@[simp] theorem State.exchange_now : (s.exchange i).2.now = s.now := by simp [State.now, State.rawSample]

@[simp] theorem State.exchange_entryWord : (s.exchange i).2.entryWord = s.entryWord := by simp [State.entryWord]
@[simp] theorem State.exchange_timeoutWord (t : Nat) : (s.exchange i).2.timeoutWord t = s.timeoutWord t := by
  simp [State.timeoutWord]

/-- A number that fits a 64-bit register is kept as it is (10_state.md rules R25, R26). -/
theorem keptWord_of_lt {free : Word64} {t : Nat} (h : t < 2 ^ 64) : keptWord free t = BitVec.ofNat 64 t := if_pos h

/-- What a 64-bit register keeps is never more than the number written. -/
theorem keptWord_toNat_le (free : Word64) (t : Nat) : (keptWord free t).toNat ≤ t := by
  unfold keptWord
  split
  · simp only [BitVec.toNat_ofNat]
    exact Nat.mod_le _ _
  · exact Nat.le_of_lt (Nat.lt_of_lt_of_le free.isLt (Nat.le_of_not_lt ‹_›))

/-- The poller's entry sample in `q.T0` is not after the sample taken. -/
theorem State.entryWord_le_now : s.entryWord.toNat ≤ s.now := keptWord_toNat_le _ _

/-! ## The end of a command -/

/-- An error writes the failure fields; a success leaves them (60_exceptions.md rule R311). -/
theorem State.endWith_error {s : State} {st : Status} (h : st ≠ .ok) (n fo fl : Word64) :
    (s.endWith st n fo fl).rsp.failOff = fo ∧ (s.endWith st n fo fl).rsp.failLen = fl := by
  simp [h]

@[simp] theorem State.endOk_q (n : Word64) : (s.endOk n).q = { s.q with fsm := .idle } := rfl
@[simp] theorem State.endOk_cfg (n : Word64) : (s.endOk n).cfg = s.cfg := rfl
@[simp] theorem State.endOk_wbuf (n : Word64) : (s.endOk n).wbuf = s.wbuf := rfl
@[simp] theorem State.endOk_hist (n : Word64) : (s.endOk n).hist = s.hist := rfl
@[simp] theorem State.endOk_env (n : Word64) : (s.endOk n).env = s.env := rfl
@[simp] theorem State.endOk_dev (n : Word64) : (s.endOk n).dev = s.dev := rfl
@[simp] theorem State.endOk_rsp (n : Word64) : (s.endOk n).rsp = { s.rsp with status := .ok, count := n } := by
  simp [State.endOk, State.endWith]

/-! ## The common head -/

/-- Everything `Precheck()` can answer (60_exceptions.md rule R315). -/
theorem State.precheck_cases (s : State) :
    (s.dev.identified = false ∧ s.precheck = some .noDevice)
    ∨ (s.dev.identified = true ∧ s.q.len = 0 ∧ s.precheck = some .ok)
    ∨ (s.dev.identified = true ∧ s.q.len ≠ 0
        ∧ s.dev.capacity.toNat < s.q.off.toNat + s.q.len.toNat ∧ s.precheck = some .invalidArgument)
    ∨ (s.rangeOk ∧ s.precheck = none) := by
  unfold State.precheck State.rangeOk
  cases hi : s.dev.identified with
  | false => simp
  | true =>
    by_cases hl : s.q.len = 0
    · simp [hl]
    · have hn : s.q.len.toNat ≠ 0 := fun h => hl (BitVec.eq_of_toNat_eq (by simpa using h))
      have hz : ¬ s.q.len = 0#64 := hl
      by_cases hr : s.dev.capacity.toNat < s.q.off.toNat + s.q.len.toNat
      · have : s.q.off.toNat > s.dev.capacity.toNat ∨ s.q.len.toNat > s.dev.capacity.toNat - s.q.off.toNat := by omega
        simp [hz, hr, this]
      · have : ¬ (s.q.off.toNat > s.dev.capacity.toNat ∨ s.q.len.toNat > s.dev.capacity.toNat - s.q.off.toNat) := by
          omega
        simp [hz, this]
        omega

end Sys2Proof.Machine
end

