-- ==== Sys2Proof/Laws/Operands.lean ====
section
/-!
SUPPORT. For each operand computation and for the poller's operations, what they can answer, said once: the two shift
searches, the chunk and the unit, the poller's call and its three outcomes.
-/

namespace Sys2Proof.Machine

open Sys2Proof

/-! ## The shift searches -/

/-- The upward search: it stays in its range, answers a solution unless it ran out, and skipped none. -/
theorem leastFrom_spec (f : Nat → Bool) (fuel start : Nat) :
    start ≤ leastFrom f start fuel ∧ leastFrom f start fuel ≤ start + fuel
      ∧ (leastFrom f start fuel < start + fuel → f (leastFrom f start fuel) = true)
      ∧ ∀ p, start ≤ p → p < leastFrom f start fuel → f p = false := by
  induction fuel generalizing start with
  | zero =>
    refine ⟨Nat.le_refl _, Nat.le_refl _, fun h => absurd h (Nat.lt_irrefl _), fun p h1 h2 => ?_⟩
    exact absurd (Nat.lt_of_le_of_lt h1 h2) (Nat.lt_irrefl _)
  | succ n ih =>
    unfold leastFrom
    split
    · rename_i h
      exact ⟨Nat.le_refl _, Nat.le_add_right _ _, fun _ => h, fun p h1 h2 => absurd h2 (Nat.not_lt.2 h1)⟩
    · rename_i h
      obtain ⟨a, b, c, d⟩ := ih (start + 1)
      refine ⟨by omega, by omega, fun hh => c (by omega), fun p h1 h2 => ?_⟩
      rcases Nat.eq_or_lt_of_le h1 with rfl | h3
      · simpa using h
      · exact d p h3 h2

/-- The downward search: its answer is a solution unless it is 0, and it skipped none. -/
theorem greatestUpTo_spec (f : Nat → Bool) (n : Nat) :
    greatestUpTo f n ≤ n ∧ (0 < greatestUpTo f n → f (greatestUpTo f n) = true)
      ∧ ∀ p, greatestUpTo f n < p → p ≤ n → f p = false := by
  induction n with
  | zero => exact ⟨Nat.le_refl _, fun h => absurd h (Nat.lt_irrefl _), fun p h1 h2 => by omega⟩
  | succ n ih =>
    unfold greatestUpTo
    split
    · rename_i h
      exact ⟨Nat.le_refl _, fun _ => h, fun p h1 h2 => by omega⟩
    · rename_i h
      obtain ⟨a, b, c⟩ := ih
      refine ⟨by omega, b, fun p h1 h2 => ?_⟩
      rcases Nat.eq_or_lt_of_le h2 with rfl | h3
      · simpa using h
      · exact c p h1 (by omega)

/-- LOCK's `pow` is no greater than any shift that is short enough (44_protection_codec.md rule R242). -/
theorem leastShift_le {cap eff p : Nat} (h : cap >>> p ≤ eff) : leastShift cap eff ≤ p := by
  by_contra hn
  have := (leastFrom_spec (fun p => decide (cap >>> p ≤ eff)) 64 0).2.2.2 p (Nat.zero_le _) (Nat.not_le.1 hn)
  simp only [decide_eq_false_iff_not] at this
  exact this h

/-- LOCK's `pow`, once found, is short enough. -/
theorem shiftRight_leastShift {cap eff : Nat} (h : leastShift cap eff < 64) : cap >>> leastShift cap eff ≤ eff := by
  have := (leastFrom_spec (fun p => decide (cap >>> p ≤ eff)) 64 0).2.2.1 (by simpa [leastShift] using h)
  simpa [leastShift] using this

/-- UNLOCK's `pow` still covers the tail (44_protection_codec.md rule R247). -/
theorem le_shiftRight_greatestShift {cap rem : Nat} (h : rem ≤ cap) : rem ≤ cap >>> greatestShift cap rem := by
  by_cases h0 : 0 < greatestShift cap rem
  · simpa [greatestShift] using (greatestUpTo_spec (fun p => decide (rem ≤ cap >>> p)) 64).2.1 h0
  · rw [show greatestShift cap rem = 0 by omega]
    simpa using h

/-- UNLOCK's `pow` is no smaller than any shift that covers the tail. -/
theorem le_greatestShift {cap rem p : Nat} (hp : p ≤ 64) (h : rem ≤ cap >>> p) : p ≤ greatestShift cap rem := by
  by_contra hn
  have := (greatestUpTo_spec (fun p => decide (rem ≤ cap >>> p)) 64).2.2 p (Nat.not_le.1 hn) hp
  simp only [decide_eq_false_iff_not] at this
  exact this h

/-! ## Chunks and units -/

/-- A page chunk is part of what is left, stays inside its program unit and respects `MAX_WRITE`
(43_program_erase_read.md rules R195, R198). -/
theorem State.pageChunk_spec (s : State) (hpage : 1 ≤ s.dev.pageSize.toNat)
    (hmax : ∀ m, s.cfg.maxWrite = some m → 1 ≤ m) (hleft : s.q.doneBytes.toNat < s.q.len.toNat) :
    1 ≤ s.pageChunk.toNat ∧ s.q.doneBytes.toNat + s.pageChunk.toNat ≤ s.q.len.toNat
      ∧ s.q.cur.toNat % s.dev.pageSize.toNat + s.pageChunk.toNat ≤ s.dev.pageSize.toNat
      ∧ ∀ m, s.cfg.maxWrite = some m → s.pageChunk.toNat ≤ m := by
  have hmod := Nat.mod_lt s.q.cur.toNat (show 0 < s.dev.pageSize.toNat from hpage)
  have hlt := s.q.len.isLt
  unfold State.pageChunk State.bytesLeft State.toBoundary
  simp only [BitVec.toNat_ofNat]
  cases hw : s.cfg.maxWrite with
  | none =>
    simp only [minLimit]
    rw [Nat.mod_eq_of_lt (by omega)]
    exact ⟨by omega, by omega, by omega, by simp⟩
  | some m =>
    have := hmax m hw
    simp only [minLimit]
    rw [Nat.mod_eq_of_lt (by omega)]
    refine ⟨by omega, by omega, by omega, fun m' hm' => ?_⟩
    cases hm'
    omega

/-- A unit of byte mode is one byte or two, and part of what is left (43_program_erase_read.md rule R203). -/
theorem State.unitChunk_spec (s : State) (hleft : s.q.doneBytes.toNat < s.q.len.toNat) :
    (s.unitChunk = 1 ∨ s.unitChunk = 2) ∧ s.q.doneBytes.toNat + s.unitChunk.toNat ≤ s.q.len.toNat := by
  unfold State.unitChunk State.bytesLeft
  split
  · exact ⟨.inl rfl, by simp; omega⟩
  · exact ⟨.inr rfl, by simp; omega⟩

/-- A program-unit size that fits the register is kept as it is (41_identification.md rule R158). -/
theorem pageWord_of_lt {p : Nat} (h : p < 2 ^ 64) : pageWord p = BitVec.ofNat 64 p := keptWord_of_lt h

/-- `dev.page_size` is at least 1 (10_state.md rule R25), and so no divisor is 0 (00_scope.md rule R15). -/
theorem pageWord_pos {p : Nat} (h : 1 ≤ p) : 1 ≤ (pageWord p).toNat := by
  unfold pageWord keptWord
  split
  · rwa [BitVec.toNat_ofNat, Nat.mod_eq_of_lt ‹_›]
  · split
    · decide
    · bv_omega

/-! ## The poller -/

/-- What the poller's call writes (46_sequencer.md rule R281). -/
theorem State.callPoller_eq (s : State) (t : Nat) (l : PollLabel) :
    s.callPoller t l =
      { s.afterSample with q := { s.q with t0 := s.entryWord, tmo := s.timeoutWord t, ret := l, fsm := .plRdsr } } :=
  rfl

/-- The three outcomes of an iteration (46_sequencer.md rule R288). -/
theorem State.decideReady_cases (s : State) (ready : Bool) :
    (ready = true ∧ s.decideReady ready = s.cont)
    ∨ (ready = false ∧ s.q.tmo.toNat ≤ s.elapsed ∧ s.decideReady ready = s.afterSample.failPoll .timeout)
    ∨ (ready = false ∧ s.elapsed < s.q.tmo.toNat ∧ s.decideReady ready = s.afterSample.setFsm .plRdsr) := by
  cases ready with
  | true => exact .inl ⟨rfl, rfl⟩
  | false =>
    by_cases h : s.q.tmo.toNat ≤ s.elapsed
    · exact .inr (.inl ⟨rfl, h, by simp [State.decideReady, h]⟩)
    · exact .inr (.inr ⟨rfl, Nat.not_le.1 h, by simp [State.decideReady, h]⟩)

/-! ## Decoding and the step -/

/-- An instruction decoded from a record is a host command. -/
theorem isHost_of_decodeRecord {r : CommandRecord} {i : Instr} (h : decodeRecord r = .ok i) : i.isHost = true := by
  unfold decodeRecord at h
  split at h
  case h_3 =>
    split at h
    · cases h; rfl
    · cases h
  all_goals cases h
  all_goals rfl

/-- The frame a rest state issues is no host command. -/
theorem State.isHost_of_fetchFrame {s : State} {i : Instr} (h : s.fetchFrame = some i) : i.isHost = false := by
  simp only [State.fetchFrame, State.readFrameInstr, State.pageFrameInstr, State.unitFrameInstr,
    State.eraseFrameInstr] at h
  cases hf : s.q.fsm <;> rw [hf] at h <;>
    simp only [reduceCtorEq, Option.map_eq_some_iff, Option.some.injEq] at h <;>
    first
      | (subst h; rfl)
      | (obtain ⟨v, _, rfl⟩ := h; rfl)
      | (subst h; split <;> rfl)

/-- Every meaning answers a next state. -/
theorem exec_next (i : Instr) (s : State) : ∃ t, exec i s = .next t := by
  cases i <;> exact ⟨_, rfl⟩

/-- A step that answers a next state, with no reset pending and a command running, is the window copy or the
meaning of the frame the state issues (46_sequencer.md rule R277). -/
theorem step_busy_cases {s t : State} (h : step s = .next t) (hr : s.env.resetLine = false) (hf : s.q.fsm ≠ .idle) :
    (s.q.fsm = .rdWin ∧ t = s.windowStep)
      ∨ (s.q.fsm ≠ .rdWin ∧ ∃ i, s.fetchFrame = some i ∧ exec i s = .next t) := by
  simp only [step, hr, hf, if_false, stepBusy] at h
  split at h
  · cases h
  rw [if_neg (by simp)] at h
  split at h
  · rename_i hw
    simp only [Host.Outcome.next.injEq] at h
    exact .inl ⟨hw, h.symm⟩
  · rename_i hw
    split at h
    · rename_i i hi
      exact .inr ⟨hw, i, hi, h⟩
    · cases h

end Sys2Proof.Machine
end

