-- ==== Sys2Proof/Laws/PerInstr.lean ====
section
/-!
SUPPORT. A statement made for every instruction, one lemma per constructor. `OneInterface`: an instruction belongs to
exactly one of the two interfaces of 30_encoding.md, and its encoding under that one bears its own code or opcode.
-/

namespace Sys2Proof.Laws.OneInterface

open Sys2Proof

/-- A host command has a record, whose code names a command, and no frame; a frame has an exchange that begins with its
opcode byte, and no record (30_encoding.md rules R91, R92, R100, R104). -/
def Statement (i : Instr) : Prop :=
  (i.kind = none → (∃ r, encodeRecord i = some r ∧ 1 ≤ r.code.toNat ∧ r.code.toNat ≤ 9)
    ∧ ∀ c g, encodeFrame c g i = none)
  ∧ ∀ k, i.kind = some k → encodeRecord i = none
    ∧ ∀ c g, ∃ x, encodeFrame c g i = some x ∧ ∀ op, k.opcode c.opc = some op → x.cmd.head? = some op

/-- The code of a record built with code `c` is `c` (30_encoding.md rule R91). -/
theorem commandRecord_code (c : Byte) (off len : Word64) (b : List Byte) : (commandRecord c off len b).code = c := by
  simp only [CommandRecord.code, commandRecord]
  exact BitVec.setWidth_setWidth_of_le c (by decide)

/-- The clause of a host command. -/
theorem of_record {i : Instr} {code : Byte} {off len : Word64} {b : List Byte} (hk : i.kind = none)
    (hr : encodeRecord i = some (commandRecord code off len b)) (h : 1 ≤ code.toNat ∧ code.toNat ≤ 9)
    (hf : ∀ c g, encodeFrame c g i = none) : Statement i := by
  refine ⟨fun _ => ⟨⟨_, hr, ?_⟩, hf⟩, fun k hk' => ?_⟩
  · rw [commandRecord_code]
    exact h
  · rw [hk] at hk'
    cases hk'

/-- The clause of a frame. -/
theorem of_frame {i : Instr} {k : FrameKind} (hk : i.kind = some k) (hr : encodeRecord i = none)
    (hf : ∀ c g, ∃ x, encodeFrame c g i = some x ∧ ∀ op, k.opcode c.opc = some op → x.cmd.head? = some op) :
    Statement i := by
  refine ⟨fun h => ?_, fun k' h => ?_⟩
  · rw [hk] at h
    cases h
  · rw [hk] at h
    cases h
    exact ⟨hr, hf⟩

theorem identify (off len : Word64) : Statement (.identify off len) := of_record rfl rfl (by decide) (fun _ _ => rfl)

theorem read (off len : Word64) : Statement (.read off len) := of_record rfl rfl (by decide) (fun _ _ => rfl)

theorem write (off len : Word64) (buf : List Byte) : Statement (.write off len buf) := of_record rfl rfl (by decide) (fun _ _ => rfl)

theorem erase (off len : Word64) : Statement (.erase off len) := of_record rfl rfl (by decide) (fun _ _ => rfl)

theorem lock (off len : Word64) : Statement (.lock off len) := of_record rfl rfl (by decide) (fun _ _ => rfl)

theorem unlock (off len : Word64) : Statement (.unlock off len) := of_record rfl rfl (by decide) (fun _ _ => rfl)

theorem geometry (off len : Word64) : Statement (.geometry off len) := of_record rfl rfl (by decide) (fun _ _ => rfl)

theorem reprobe (off len : Word64) : Statement (.reprobe off len) := of_record rfl rfl (by decide) (fun _ _ => rfl)

theorem isLocked (off len : Word64) : Statement (.isLocked off len) := of_record rfl rfl (by decide) (fun _ _ => rfl)

theorem rdid : Statement .rdid := of_frame rfl rfl (fun _ _ => ⟨_, rfl, fun _ h => h⟩)

theorem rdsr : Statement .rdsr := of_frame rfl rfl (fun _ _ => ⟨_, rfl, fun _ h => h⟩)

theorem wrsr (p : List Byte) : Statement (.wrsr p) := of_frame rfl rfl (fun _ _ => ⟨_, rfl, fun _ h => h⟩)

theorem rdfsr : Statement .rdfsr := of_frame rfl rfl (fun _ _ => ⟨_, rfl, fun _ h => h⟩)

theorem wren : Statement .wren := of_frame rfl rfl (fun _ _ => ⟨_, rfl, fun _ h => h⟩)

theorem wrdi : Statement .wrdi := of_frame rfl rfl (fun _ _ => ⟨_, rfl, fun _ h => h⟩)

theorem rdvr (op : Byte) : Statement (.rdvr op) := of_frame rfl rfl (fun _ _ => ⟨_, rfl, fun _ h => by cases h⟩)

theorem wrvr (op : Byte) (p : List Byte) : Statement (.wrvr op p) := of_frame rfl rfl (fun _ _ => ⟨_, rfl, fun _ h => by cases h⟩)

theorem readFrame (a n : Word64) : Statement (.readFrame a n) := of_frame rfl rfl (fun _ _ => ⟨_, rfl, fun _ h => h⟩)

theorem readFast (a n : Word64) : Statement (.readFast a n) := of_frame rfl rfl (fun _ _ => ⟨_, rfl, fun _ h => h⟩)

theorem readDual (a n : Word64) : Statement (.readDual a n) := of_frame rfl rfl (fun _ _ => ⟨_, rfl, fun _ h => h⟩)

theorem readQuad (a n : Word64) : Statement (.readQuad a n) := of_frame rfl rfl (fun _ _ => ⟨_, rfl, fun _ h => h⟩)

theorem readQuadIo (a n : Word64) : Statement (.readQuadIo a n) := of_frame rfl rfl (fun _ _ => ⟨_, rfl, fun _ h => h⟩)

theorem pp (a : Word64) (d : List Byte) : Statement (.pp a d) := of_frame rfl rfl (fun _ _ => ⟨_, rfl, fun _ h => h⟩)

theorem ppQuad (a : Word64) (d : List Byte) : Statement (.ppQuad a d) := of_frame rfl rfl (fun _ _ => ⟨_, rfl, fun _ h => h⟩)

theorem bp (a : Word64) (d : List Byte) : Statement (.bp a d) := of_frame rfl rfl (fun _ _ => ⟨_, rfl, fun _ h => h⟩)

theorem aaiWp (a : Word64) (d : List Byte) : Statement (.aaiWp a d) := of_frame rfl rfl (fun _ _ => ⟨_, rfl, fun _ h => h⟩)

theorem se (a : Word64) : Statement (.se a) := of_frame rfl rfl (fun _ _ => ⟨_, rfl, fun _ h => h⟩)

theorem be4k (a : Word64) : Statement (.be4k a) := of_frame rfl rfl (fun _ _ => ⟨_, rfl, fun _ h => h⟩)

end Sys2Proof.Laws.OneInterface
end

