-- ==== Sys2Proof/Tests/Slice0.lean ====
section
/-!
SUPPORT. The model's own tests. Expected values come from the spec: the encodings of 30_encoding.md, the worked examples of
files 42 to 46, the vectors of 95_test_vectors.md (each test names its source). Every test runs one step of one instruction,
or one function, on a small state. The last part shows, for every obligation with hypotheses, a state and operands that
meet them.
-/

namespace Sys2Proof.Tests

open Sys2Proof Sys2Proof.Machine

/-! ## Small states -/

/-- Right after a successful IDENTIFY that matched entry `i` with the response `r`, under `c`. -/
def identifiedAs (c : Config) (i : Nat) (r : List Byte) : State :=
  let s := State.resetWith c Env.silent
  { s with dev := { deriveDev c i (c.chipTable.getD i default) r s.dev with identified := true }
           q := { s.q with idbuf := r } }

/-- "E0 identified" (95_test_vectors.md section 2). -/
def e0 : State := identifiedAs Config.p0 0 [0xC2, 0x20, 0x17, 0x00, 0x00]

/-- E1 identified: four address bytes, a page of 512 (vector I2). -/
def e1 : State := identifiedAs Config.p0 1 [0x01, 0x02, 0x19, 0x4D, 0x00]

/-- E3 identified under `USE_4K`: byte mode, 4 KiB erase, no protection bits (program P4). -/
def e3 : State := identifiedAs { Config.p0 with use4k := true } 3 [0xBF, 0x25, 0x8E, 0x00, 0x00]

/-- E4 identified: a flag status register (vector I19). -/
def e4 : State := identifiedAs Config.p0 4 [0x20, 0xBA, 0x18, 0x00, 0x00]

/-- E0 with another wiring of the lock check. -/
def e0With (m : LockQueryMode) : State := { e0 with cfg := { Config.p0 with lockQuery := m } }

/-- `s` in the rest state `f`, the transport about to answer `a`. -/
def restingIn (s : State) (f : FsmState) (a : List Answer) : State :=
  { s with q := { s.q with fsm := f }, env := { s.env with answers := a } }

/-- `s` with a command of code `op` over `[off, off + len)` in flight. -/
def running (s : State) (op : Byte) (off len : Word64) : State := { s with q := { s.q with op := op, off := off, len := len } }

/-- `s` with the cursor of its loop at `cur`, `n` bytes done, the chunk or unit `chunk` long. -/
def loopAt (s : State) (cur n chunk : Word64) : State :=
  { s with q := { s.q with cur := cur, doneBytes := n, chunk := chunk } }

/-- `s` with the poller called for `l`, timeout `tmo`, entry sample `t0`, the clock about to answer `samples`. -/
def pollCalled (s : State) (l : PollLabel) (tmo t0 : Word64) (samples : List Nat) : State :=
  { s with q := { s.q with ret := l, tmo := tmo, t0 := t0 }, env := { s.env with samples := samples, lastSample := t0.toNat } }

/-- `s` with the record `r` at the port. -/
def presented (s : State) (r : CommandRecord) : State := { s with env := { s.env with port := [r] } }

/-- `s` with its device forgotten, the identification response kept: the state of a running negotiation. -/
def unconfirmed (s : State) : State := { s with dev := { s.dev with identified := false } }

/-- `RX_MODE = QUAD`, E0 matched, its negotiation running (vector Q1). -/
def q0 : State := unconfirmed (identifiedAs { Config.p0 with rxMode := .quad } 0 [0xC2, 0x20, 0x17, 0x00, 0x00])

/-- `RX_MODE = QUAD`, E1 matched, its negotiation running (vector Q4). -/
def q1 : State := unconfirmed (identifiedAs { Config.p0 with rxMode := .quad } 1 [0x01, 0x02, 0x19, 0x4D, 0x00])

/-- The chip `WB` for E0, status register `sr`, its array erased but for one byte. -/
def wb (sr : Byte) : Chip := { desc := fixtureTable.getD 0 default, mem := [(0x100, 0x0F)], sr := sr, vr := 0, wel := true }

/-- E0 identified, with `WB` behind the transport and the record `r` at the port. -/
def behindWb (sr : Byte) (r : CommandRecord) : State :=
  { e0 with env := { Env.silent with transport := .wellBehaved (wb sr), port := [r] } }

/-- Whether an outcome is a next state of which `p` holds. -/
def next? (o : Host.Outcome State Fault Refusal) (p : State → Bool) : Bool :=
  match o with
  | .next t => p t
  | _ => false

/-- Whether a command has ended with this status, count and failure fields. -/
def ended (st : Status) (count fo fl : Word64) (t : State) : Bool :=
  t.q.fsm == .idle && t.rsp.status == st && t.rsp.count == count && t.rsp.failOff == fo && t.rsp.failLen == fl

/-- Whether a command has ended with success and this count. -/
def endedOk (count : Word64) (t : State) : Bool := t.q.fsm == .idle && t.rsp.status == .ok && t.rsp.count == count

/-! ## Well-formedness: each check refuses an ill-formed term -/

/-- 30_encoding.md rule R91: the buffer of a WRITE has exactly `len` bytes. -/
theorem test_wf_write_buffer : Instr.wf ⟨3, 1⟩ (.write 0 2 [0xAA]) = false ∧ Instr.wf ⟨3, 1⟩ (.write 0 1 [0xAA]) = true := by
  decide

/-- 20_memory.md rule R61: an address wider than the address bytes is refused, the last one that fits is not. -/
theorem test_wf_address :
    Instr.wf ⟨3, 1⟩ (.readFast 0x1000000 1) = false ∧ Instr.wf ⟨3, 1⟩ (.readFast 0xFFFFFF 1) = true
    ∧ Instr.wf ⟨3, 1⟩ (.readFrame 0x1000000 1) = false ∧ Instr.wf ⟨3, 1⟩ (.readDual 0x1000000 1) = false
    ∧ Instr.wf ⟨3, 1⟩ (.readQuad 0x1000000 1) = false ∧ Instr.wf ⟨3, 1⟩ (.readQuadIo 0x1000000 1) = false
    ∧ Instr.wf ⟨3, 1⟩ (.pp 0x1000000 [0]) = false ∧ Instr.wf ⟨3, 1⟩ (.ppQuad 0x1000000 [0]) = false
    ∧ Instr.wf ⟨3, 1⟩ (.bp 0x1000000 [0]) = false ∧ Instr.wf ⟨3, 1⟩ (.aaiWp 0x1000000 [0, 0]) = false
    ∧ Instr.wf ⟨3, 1⟩ (.se 0x1000000) = false ∧ Instr.wf ⟨3, 1⟩ (.be4k 0x1000000) = false := by decide

/-- 30_encoding.md rule R104: the payload and receive columns. -/
theorem test_wf_payload :
    Instr.wf ⟨3, 1⟩ (.wrsr []) = false ∧ Instr.wf ⟨3, 1⟩ (.wrsr [0, 0, 0]) = false
    ∧ Instr.wf ⟨3, 1⟩ (.wrvr 0x01 []) = false ∧ Instr.wf ⟨3, 1⟩ (.wrvr 0x01 [0, 0, 0]) = false
    ∧ Instr.wf ⟨3, 1⟩ (.pp 0 []) = false ∧ Instr.wf ⟨3, 1⟩ (.ppQuad 0 []) = false
    ∧ Instr.wf ⟨3, 1⟩ (.bp 0 [0, 0]) = false ∧ Instr.wf ⟨3, 1⟩ (.aaiWp 0 [0]) = false
    ∧ Instr.wf ⟨3, 1⟩ (.readFrame 0 0) = false ∧ Instr.wf ⟨3, 1⟩ (.readFast 0 0) = false
    ∧ Instr.wf ⟨3, 1⟩ (.readDual 0 0) = false ∧ Instr.wf ⟨3, 1⟩ (.readQuad 0 0) = false
    ∧ Instr.wf ⟨3, 1⟩ (.readQuadIo 0 0) = false := by decide

/-- 00_scope.md rule R7: the fixture meets it; breaking a constraint is refused. A timeout wider than `q.TMO` breaks none. -/
theorem test_wf_config :
    Config.p0.wf = true ∧ { Config.p0 with tErase := 100 }.wf = false ∧ { Config.p0 with tErase := 2 ^ 64 }.wf = true
    ∧ { Config.p0 with tQuad := 2 ^ 64 }.wf = true
    ∧ { Config.p0 with maxWrite := some 0 }.wf = false
    ∧ { Config.p0 with idMaxLen := 4 }.wf = false ∧ { Config.p0 with srBpMask := 0x0C }.wf = false
    ∧ { Config.p0 with srBpShift := 6, srBpMask := 0xC0 }.wf = false
    ∧ { Config.p0 with addrWidthOf := [(fixtureTable.getD 0 default, 2)] }.wf = false
    ∧ { Config.p0 with quadVendors := [(0xC2, ⟨0x05, 0x01, 0x41, .regOnly⟩)] }.wf = false := by decide

/-- 00_scope.md rule R7: the constraints on a descriptor. -/
theorem test_wf_descriptor :
    Config.p0.descriptorOk ⟨[0xC2], 1, 0x10000, 128, 256, {}⟩ = true
    ∧ Config.p0.descriptorOk ⟨[0xC2], 0, 0x10000, 128, 256, {}⟩ = false
    ∧ Config.p0.descriptorOk ⟨[0xC2], 2, 0x10000, 128, 256, {}⟩ = false
    ∧ Config.p0.descriptorOk ⟨[0, 0, 0, 0, 0, 0], 6, 0x10000, 128, 256, {}⟩ = false
    ∧ Config.p0.descriptorOk ⟨[0xC2], 1, 0, 128, 256, {}⟩ = false
    ∧ Config.p0.descriptorOk ⟨[0xC2], 1, 0x10000, 0, 256, {}⟩ = false
    ∧ Config.p0.descriptorOk ⟨[0xC2], 1, 0x10000, 128, 0, {}⟩ = false
    ∧ Config.p0.descriptorOk ⟨[0xC2], 1, 0x10000, 128, 2 ^ 63, {}⟩ = true
    ∧ Config.p0.descriptorOk ⟨[0xC2], 1, 2 ^ 32, 2, 256, {}⟩ = false
    ∧ { Config.p0 with use4k := true }.descriptorOk ⟨[0xC2], 1, 0x1800, 4, 256, { sect4k := true }⟩ = false := by decide

/-! ## Decoding words written out from the encodings -/

/-- A record of format H with the code `c`, offset 0x0102030405060708 and length 2, byte by byte, least significant first
(30_encoding.md rule R91). -/
def recordBytes (c : Byte) : List Byte :=
  [c, 0, 0, 0, 0, 0, 0, 0, 0x08, 0x07, 0x06, 0x05, 0x04, 0x03, 0x02, 0x01, 0x02, 0, 0, 0, 0, 0, 0, 0]

/-- 30_encoding.md rules R91, R92: the nine codes. -/
theorem test_decode_host :
    decodeBytes (recordBytes 0x01) = .ok (.identify 0x0102030405060708 2, [])
    ∧ decodeBytes (recordBytes 0x02) = .ok (.read 0x0102030405060708 2, [])
    ∧ decodeBytes (recordBytes 0x03 ++ [0xAA, 0xBB, 0xCC]) = .ok (.write 0x0102030405060708 2 [0xAA, 0xBB], [0xCC])
    ∧ decodeBytes (recordBytes 0x04) = .ok (.erase 0x0102030405060708 2, [])
    ∧ decodeBytes (recordBytes 0x05) = .ok (.lock 0x0102030405060708 2, [])
    ∧ decodeBytes (recordBytes 0x06) = .ok (.unlock 0x0102030405060708 2, [])
    ∧ decodeBytes (recordBytes 0x07) = .ok (.geometry 0x0102030405060708 2, [])
    ∧ decodeBytes (recordBytes 0x08) = .ok (.reprobe 0x0102030405060708 2, [])
    ∧ decodeBytes (recordBytes 0x09) = .ok (.isLocked 0x0102030405060708 2, []) := by decide

/-- 30_encoding.md rules R93, R96: reserved codes are refused by name, bits 63:8 of the first word ignored, a record cut
short refused. -/
theorem test_decode_host_refused :
    decodeBytes (recordBytes 0x00) = .error (.reservedCode 0x00) ∧ decodeBytes (recordBytes 0x0A) = .error (.reservedCode 0x0A)
    ∧ decodeBytes (recordBytes 0xFF) = .error (.reservedCode 0xFF)
    ∧ decodeBytes (recordBytes 0x03 ++ [0xAA]) = .error .truncated ∧ decodeBytes [0x01] = .error .truncated
    ∧ decodeRecord ⟨0xFFFFFFFFFFFFFF07, 0, 0, []⟩ = .ok (.geometry 0 0)
    ∧ decodeRecord ⟨0x03, 0, 2, [0xAA]⟩ = .error .bufferLength := by decide

/-- Vectors F1 to F15: the register frames. -/
theorem test_decode_register_frames :
    decodeFrame Config.p0 ⟨3, 1⟩ .rdid ⟨[0x9F], none, some 5⟩ = .ok .rdid
    ∧ decodeFrame Config.p0 ⟨3, 1⟩ .rdsr ⟨[0x05], none, some 1⟩ = .ok .rdsr
    ∧ decodeFrame Config.p0 ⟨3, 1⟩ .wrsr ⟨[0x01], some [0x0C], none⟩ = .ok (.wrsr [0x0C])
    ∧ decodeFrame Config.p0 ⟨3, 1⟩ .wrsr ⟨[0x01], some [0x00, 0x02], none⟩ = .ok (.wrsr [0x00, 0x02])
    ∧ decodeFrame Config.p0 ⟨3, 1⟩ .rdfsr ⟨[0x70], none, some 1⟩ = .ok .rdfsr
    ∧ decodeFrame Config.p0 ⟨3, 1⟩ .wren ⟨[0x06], none, none⟩ = .ok .wren
    ∧ decodeFrame Config.p0 ⟨3, 1⟩ .wrdi ⟨[0x04], none, none⟩ = .ok .wrdi
    ∧ decodeFrame Config.p0 ⟨3, 1⟩ .rdvr ⟨[0x35], none, some 1⟩ = .ok (.rdvr 0x35)
    ∧ decodeFrame Config.p0 ⟨3, 1⟩ .wrvr ⟨[0x01], some [0x40], none⟩ = .ok (.wrvr 0x01 [0x40]) := by decide

/-- Vectors R1 to R5 and 30_encoding.md rule R104: the array read frames. -/
theorem test_decode_read_frames :
    decodeFrame Config.p0 ⟨3, 0⟩ .readFrame ⟨[0x03, 0x00, 0x10, 0x00], none, some 16⟩ = .ok (.readFrame 0x1000 16)
    ∧ decodeFrame Config.p0 ⟨3, 1⟩ .readFast ⟨[0x0B, 0x00, 0x10, 0x00, 0x00], none, some 16⟩ = .ok (.readFast 0x1000 16)
    ∧ decodeFrame Config.p0 ⟨3, 1⟩ .readDual ⟨[0x3B, 0x00, 0x10, 0x00, 0x00], none, some 16⟩ = .ok (.readDual 0x1000 16)
    ∧ decodeFrame Config.p0 ⟨3, 1⟩ .readQuad ⟨[0x6B, 0x00, 0x10, 0x00, 0x00], none, some 16⟩ = .ok (.readQuad 0x1000 16)
    ∧ decodeFrame Config.p0 ⟨3, 2⟩ .readQuadIo ⟨[0xEB, 0x00, 0x10, 0x00, 0x00, 0x00], none, some 16⟩
        = .ok (.readQuadIo 0x1000 16)
    ∧ decodeFrame Config.p0 ⟨4, 1⟩ .readFast ⟨[0x0B, 0x01, 0xFF, 0xFF, 0x00, 0x00], none, some 256⟩
        = .ok (.readFast 0x01FFFF00 256) := by decide

/-- Programs P1, P4, P6 and vectors W8, B1, E3: the program and erase frames. -/
theorem test_decode_change_frames :
    decodeFrame Config.p0 ⟨3, 1⟩ .pp ⟨[0x02, 0x01, 0x00, 0xFE], some [0x11, 0x22], none⟩ = .ok (.pp 0x0100FE [0x11, 0x22])
    ∧ decodeFrame Config.p0 ⟨3, 1⟩ .ppQuad ⟨[0x32, 0x00, 0x02, 0x00], some [1, 2, 3, 4], none⟩
        = .ok (.ppQuad 0x000200 [1, 2, 3, 4])
    ∧ decodeFrame Config.p0 ⟨3, 1⟩ .bp ⟨[0x02, 0x00, 0x01, 0x01], some [0xA1], none⟩ = .ok (.bp 0x000101 [0xA1])
    ∧ decodeFrame Config.p0 ⟨3, 1⟩ .aaiWp ⟨[0xAD, 0x00, 0x01, 0x02], some [0xA2, 0xA3], none⟩
        = .ok (.aaiWp 0x000102 [0xA2, 0xA3])
    ∧ decodeFrame Config.p0 ⟨4, 1⟩ .se ⟨[0xD8, 0x01, 0xFF, 0x00, 0x00], none, none⟩ = .ok (.se 0x01FF0000)
    ∧ decodeFrame Config.p0 ⟨3, 1⟩ .be4k ⟨[0x20, 0x00, 0x30, 0x00], none, none⟩ = .ok (.be4k 0x003000) := by decide

/-- 30_encoding.md rules R102 to R105: a wrong opcode, a wrong length, a wrong dummy byte, a payload the row does not have
are refused by name. -/
theorem test_decode_frames_refused :
    decodeFrame Config.p0 ⟨3, 1⟩ .rdsr ⟨[0x9F], none, some 1⟩ = .error .wrongOpcode
    ∧ decodeFrame Config.p0 ⟨3, 1⟩ .rdsr ⟨[], none, some 1⟩ = .error .wrongOpcode
    ∧ decodeFrame Config.p0 ⟨4, 1⟩ .se ⟨[0xD8, 0x01, 0x00, 0x00], none, none⟩ = .error .frameLength
    ∧ decodeFrame Config.p0 ⟨3, 1⟩ .readFast ⟨[0x0B, 0x00, 0x10, 0x00, 0xFF], none, some 16⟩ = .error .dummyBytes
    ∧ decodeFrame Config.p0 ⟨3, 1⟩ .wren ⟨[0x06], some [0], none⟩ = .error .payload := by decide

/-! ## Host commands -/

/-- Vectors I10 and I1, first step. -/
theorem test_identify :
    next? (exec (.identify 0 0) e0) (fun t => endedOk 0 t && t.hist == [] && t.dev == e0.dev) = true
    ∧ next? (exec (.identify 0 0) State.reset) (fun t => t.q.fsm == .idRdid && t.q.op == 0x01 && t.hist == []) = true := by
  decide

/-- Vectors R6, R10 (first steps). -/
theorem test_read_accepted :
    next? (exec (.read 0x7FFFFF 1) e0) (fun t => t.q.fsm == .rdXfer && t.q.off == 0x7FFFFF && t.q.len == 1) = true
    ∧ next? (exec (.read 0x1000 16) { e0 with dev := { e0.dev with window := true } }) (fun t => t.q.fsm == .rdWin) = true := by
  decide

/-- Vectors X2, X7 to X12. -/
theorem test_read_checked :
    next? (exec (.read 0 0) State.reset) (ended .noDevice 0 0 0) = true
    ∧ next? (exec (.read 0x800000 0) e0) (endedOk 0) = true
    ∧ next? (exec (.read 0xFFFFFFFFFFFFFFFF 0) e0) (endedOk 0) = true
    ∧ next? (exec (.read 0x800000 1) e0) (ended .invalidArgument 0 0x800000 1) = true
    ∧ next? (exec (.read 0x800001 1) e0) (ended .invalidArgument 0 0x800001 1) = true
    ∧ next? (exec (.read 0 0x800001) e0) (ended .invalidArgument 0 0 0x800001) = true
    ∧ next? (exec (.read 0xFFFFFFFFFFFFFFFF 0xFFFFFFFFFFFFFFFF) e0)
        (ended .invalidArgument 0 0xFFFFFFFFFFFFFFFF 0xFFFFFFFFFFFFFFFF) = true := by decide

/-- Vectors W15, W18 (the loop starts at once), B1 (byte mode), and 46_sequencer.md rule R293 step 1. -/
theorem test_write_accepted :
    next? (exec (.write 0xF0 48 (List.replicate 48 7)) e0) (fun t => t.q.fsm == .lqRdsr && t.wbuf.length == 48) = true
    ∧ next? (exec (.write 0 4 [1, 2, 3, 4]) (e0With .absent))
        (fun t => t.q.fsm == .wrWren && t.q.cur == 0 && t.q.doneBytes == 0 && t.q.chunk == 4) = true
    ∧ next? (exec (.write 0x101 4 [1, 2, 3, 4]) e3) (fun t => t.q.fsm == .bwWren && t.q.cur == 0x101 && t.q.err == .ok)
        = true := by decide

/-- Vectors W16, W17, W19, W20. -/
theorem test_write_refused :
    next? (exec (.write 0 4 [1, 2, 3, 4])
      { e0With .external with env := { Env.silent with lockAnswers := [some true] } }) (ended .locked 0 0 4) = true
    ∧ next? (exec (.write 0 4 [1, 2, 3, 4])
      { e0With .external with env := { Env.silent with lockAnswers := [none] } }) (fun t => t.q.fsm == .wrWren) = true
    ∧ next? (exec (.write 0x7FFFFF 2 [1, 2]) e0) (ended .invalidArgument 0 0x7FFFFF 2) = true
    ∧ next? (exec (.write 0x800000 0 []) e0) (endedOk 0) = true := by decide

/-- Vectors E1 (first step), E8 (an unaligned offset is accepted), E15. -/
theorem test_erase_accepted :
    next? (exec (.erase 0x10000 0x20000) e0) (fun t => t.q.fsm == .lqRdsr) = true
    ∧ next? (exec (.erase 0x10800 0x10000) e0) (fun t => t.q.fsm == .lqRdsr) = true
    ∧ next? (exec (.erase 0x1000 0x1000) e3)
        (fun t => t.q.fsm == .erWren && t.q.cur == 0x1000 && t.q.chunk == 0x1000 && t.hist == []) = true := by decide

/-- Vectors E2, E4 (under `USE_4K`), E7, E9. -/
theorem test_erase_refused :
    next? (exec (.erase 0 0x1800) e0) (ended .invalidArgument 0 0 0x1800) = true
    ∧ next? (exec (.erase 0 0x1800) e3) (ended .invalidArgument 0 0 0x1800) = true
    ∧ next? (exec (.erase 0x7F0000 0x20000) e0) (ended .invalidArgument 0 0x7F0000 0x20000) = true
    ∧ next? (exec (.erase 0 0) e0) (endedOk 0) = true := by decide

/-- Vectors L1 (first step), X3, X13 to X15, L16. -/
theorem test_lock :
    next? (exec (.lock 0x780000 0x80000) e0) (fun t => t.q.fsm == .lkRdsr && t.q.op == 0x05) = true
    ∧ next? (exec (.lock 0 0x1000) State.reset) (ended .noDevice 0 0 0x1000) = true
    ∧ next? (exec (.lock 0 0) e3) (endedOk 0) = true
    ∧ next? (exec (.lock 0 0x200000) e3) (ended .invalidArgument 0 0 0x200000) = true
    ∧ next? (exec (.lock 0 0x1000) e3) (ended .unsupported 0 0 0x1000) = true
    ∧ next? (exec (.lock 0x780000 0x80001) e0) (ended .invalidArgument 0 0x780000 0x80001) = true := by decide

/-- Vectors U1 (first step), X15. -/
theorem test_unlock :
    next? (exec (.unlock 0x780000 0x80000) e0) (fun t => t.q.fsm == .ulRdsr && t.q.op == 0x06) = true
    ∧ next? (exec (.unlock 0 0x1000) e3) (ended .unsupported 0 0 0x1000) = true := by decide

/-- GEOMETRY after I1 and I2, and vector X1. -/
theorem test_geometry :
    next? (exec (.geometry 0 0) e0) (fun t => endedOk 0 t && t.rsp.totalSize == 0x800000 && t.rsp.eraseUnitSize == 0x10000
      && t.rsp.programUnitSize == 0x100) = true
    ∧ next? (exec (.geometry 0 0) e1) (fun t => t.rsp.totalSize == 0x2000000 && t.rsp.programUnitSize == 0x200) = true
    ∧ next? (exec (.geometry 0 0) State.reset) (ended .noDevice 0 0 0) = true := by decide

/-- Program P5 command 7 and vector X4. -/
theorem test_reprobe :
    next? (exec (.reprobe 0 0) { e0 with dev := { e0.dev with window := true } })
      (fun t => endedOk 0 t && !t.dev.identified && !t.dev.window) = true
    ∧ next? (exec (.reprobe 0 0) State.reset) (endedOk 0) = true := by decide

/-- Vectors K1 (first step), K9, K10. -/
theorem test_is_locked :
    next? (exec (.isLocked 0x780000 0x80000) e0) (fun t => t.q.fsm == .ilRdsr && t.q.op == 0x09) = true
    ∧ next? (exec (.isLocked 0 0) e0) (endedOk 0) = true
    ∧ next? (exec (.isLocked 0 1) e3) (ended .unsupported 0 0 1) = true := by decide

/-! ## Identification -/

/-- 41_identification.md rule R158: a page of 2^63 bytes is kept where the quirk is inert (`ID_MAX_LEN < 5`), and doubled
below that where it fires. -/
theorem test_wide_page :
    (deriveDev { Config.p0 with idMaxLen := 3 } 0 ⟨[1], 1, 0x10000, 32, 2 ^ 63, {}⟩ [1, 2, 0x19] Dev.reset).pageSize
      = BitVec.ofNat 64 (2 ^ 63)
    ∧ (deriveDev Config.p0 0 ⟨[1], 1, 0x10000, 32, 2 ^ 62, {}⟩ [1, 2, 0x19, 0x4D, 0] Dev.reset).pageSize
      = BitVec.ofNat 64 (2 ^ 63) := by decide

/-- "E0 identified" of 95_test_vectors.md section 2, field by field. -/
theorem test_derive_e0 : e0.dev =
    { identified := true, desc := 0, readOpcode := .readFast, programOpcode := .pp, eraseOpcode := .se, addrWidth := 3,
      readDummy := 8, readMode := .fast, writeMode := .std, pageSize := 256, sectorSize := 0x10000, eraseSize := 0x10000,
      capacity := 0x800000, progVariant := .page, protVariant := .bp, useFsr := false, window := false, cmdbuf := [] } := by
  decide

/-- Vectors I2 to I5, I7, I24: which descriptor matches, and the page-size quirk. -/
theorem test_match :
    (firstMatchFrom 0 fixtureTable [0x01, 0x02, 0x19, 0x4D, 0x00]).map Prod.fst = some 1
    ∧ (firstMatchFrom 0 fixtureTable [0x01, 0x02, 0x15, 0x4D, 0x00]).map Prod.fst = some 2
    ∧ (firstMatchFrom 0 fixtureTable [0x01, 0x02, 0x20, 0x4D, 0x00]).map Prod.fst = some 5
    ∧ (firstMatchFrom 0 fixtureTable [0x01, 0x02, 0x19, 0x00, 0x00]).map Prod.fst = some 5
    ∧ (firstMatchFrom 0 fixtureTable [0xFF, 0xFF, 0xFF, 0xFF, 0xFF]).map Prod.fst = none
    ∧ (firstMatchFrom 0 fixtureTable [0x1F, 0x60, 0x00, 0x00, 0x00]).map Prod.fst = some 6
    ∧ pageQuirk Config.p0 [0x01, 0x02, 0x19, 0x4D, 0x00] = true ∧ pageQuirk Config.p0 [0x01, 0x02, 0x15, 0x4D, 0x00] = false
    ∧ pageQuirk Config.p0 [0x01, 0x02, 0x20, 0x4D, 0x00] = true ∧ pageQuirk Config.p0 [0x01, 0x02, 0x19, 0x00, 0x00] = false
    ∧ pageQuirk { Config.p0 with idMaxLen := 3 } [0x01, 0x02, 0x19] = false := by decide

/-- Vectors I11 to I17, I19 to I21: the opcode policy on the flags of E0, E1, E3. -/
theorem test_policy :
    selectRead .slow { rdQuad := true, rdDual := true } = .read ∧ selectRead .fast { rdQuad := true } = .readFast
    ∧ selectRead .dual { rdQuad := true, rdDual := true } = .readDual ∧ selectRead .dual { rdQuad := true } = .readFast
    ∧ selectRead .quad { rdQuad := true, rdDual := true } = .readQuad ∧ selectRead .quad {} = .readFast
    ∧ selectProgram .quad { wrQuad := true } = .ppQuad ∧ selectProgram .quad {} = .pp
    ∧ selectProgram .std { wrQuad := true } = .pp
    ∧ e1.dev.addrWidth = 4 ∧ e4.dev.addrWidth = 3 ∧ e4.dev.useFsr = true ∧ e3.dev.eraseOpcode = .be4k
    ∧ e3.dev.eraseSize = 4096 ∧ e3.dev.sectorSize = 0x10000 ∧ e3.dev.progVariant = .byte ∧ e3.dev.protVariant = .none := by
  decide

/-- Vectors I1 and I15: RDID, answered in full. -/
theorem test_rdid :
    next? (exec .rdid (restingIn State.reset .idRdid [.ok [0xC2, 0x20, 0x17, 0, 0]]))
      (fun t => endedOk 0 t && t.dev == { e0.dev with cmdbuf := [0x9F] }
        && t.hist == [.xfer ⟨[0x9F], none, some 5⟩ (.ok [0xC2, 0x20, 0x17, 0, 0])]) = true
    ∧ next? (exec .rdid (restingIn { State.reset with cfg := { Config.p0 with rxMode := .quad } } .idRdid
        [.ok [0xC2, 0x20, 0x17, 0, 0]])) (fun t => t.q.fsm == .qnRd1 && !t.dev.identified) = true := by decide

/-- Vectors I7 to I9, I18: RDID's failures. -/
theorem test_rdid_fails :
    next? (exec .rdid (restingIn State.reset .idRdid [.ok [0xFF, 0xFF, 0xFF, 0xFF, 0xFF]]))
      (fun t => ended .notFound 0 0 0 t && t.dev == { Dev.reset with cmdbuf := [0x9F] }) = true
    ∧ next? (exec .rdid (restingIn State.reset .idRdid [.ok [0xC2, 0x20, 0x17]])) (ended .notFound 0 0 0) = true
    ∧ next? (exec .rdid (restingIn State.reset .idRdid [.err 7]))
      (fun t => ended .transportError 0 0 0 t && t.rsp.cause == .transport 7) = true
    ∧ next? (exec .rdid (restingIn { State.reset with cfg := { Config.p0 with rxMode := .quad } } .idRdid
        [.ok [0x20, 0xBA, 0x18, 0, 0]])) (fun t => ended .unsupportedQuadVendor 0 0 0 t && !t.dev.identified) = true := by
  decide

/-- 45_quad_negotiator.md rule R268 (a), (b), (d): RDVR, first read and read-back. -/
theorem test_rdvr :
    next? (exec (.rdvr 0x05) (restingIn q0 .qnRd1 [.ok [0x00]])) (fun t => t.q.fsm == .qnWren && t.q.reg == 0x00) = true
    ∧ next? (exec (.rdvr 0x35) (restingIn q1 .qnRd1 [.ok [0x00]])) (fun t => t.q.fsm == .qnRdsr) = true
    ∧ next? (exec (.rdvr 0x05) (restingIn q0 .qnRd2 [.ok [0x40]])) (fun t => endedOk 0 t && t.dev.identified) = true
    ∧ next? (exec (.rdvr 0x05) (restingIn q0 .qnRd2 [.ok [0x00]]))
        (fun t => ended .modeNotConfirmed 0 0 0 t && !t.dev.identified) = true := by decide

/-- 45_quad_negotiator.md rule R268 (a), (c), (d), vectors Q7, Q8: the write of the negotiation. -/
theorem test_wrvr :
    (restingIn { q0 with q := { q0.q with reg := 0x42 } } .qnWr []).fetchFrame = some (.wrvr 0x01 [0x42])
    ∧ (restingIn { q1 with q := { q1.q with srOld := 0x0C } } .qnWr []).fetchFrame = some (.wrvr 0x01 [0x0C, 0x02])
    ∧ next? (exec (.wrvr 0x01 [0x40]) (pollCalled (restingIn q0 .qnWr [.ok []]) .erPoll 0 0 [0]))
        (fun t => t.q.fsm == .plRdsr && t.q.ret == .qnPoll && t.q.tmo == 100 && t.q.t0 == 0) = true
    ∧ next? (exec (.wrvr 0x01 [0x40]) (restingIn q0 .qnWr [.err 9]))
        (fun t => ended .transportError 0 0 0 t && t.rsp.cause == .transport 9) = true := by decide

/-! ## Register frames -/

/-- 42_readiness_poller.md rule R188, rows 1, 2, 5, 6, 7: RDSR in the poller. -/
theorem test_rdsr_polls :
    next? (exec .rdsr (pollCalled (restingIn q0 .plRdsr [.ok [0x02]]) .qnPoll 100 50 [])) (fun t => t.q.fsm == .qnRd2) = true
    ∧ next? (exec .rdsr (pollCalled (restingIn q0 .plRdsr [.ok [0x01]]) .qnPoll 100 50 [149])) (fun t => t.q.fsm == .plRdsr)
        = true
    ∧ next? (exec .rdsr (pollCalled (restingIn q0 .plRdsr [.ok [0x01]]) .qnPoll 100 50 [150])) (ended .timeout 0 0 0) = true
    ∧ next? (exec .rdsr (pollCalled (restingIn q0 .plRdsr [.ok [0x01]]) .qnPoll 0 50 [50])) (ended .timeout 0 0 0) = true
    ∧ next? (exec .rdsr (pollCalled (restingIn e4 .plRdsr [.ok [0x01]]) .wrPoll 100 50 [])) (fun t => t.q.fsm == .plRdfsr)
        = true := by decide

/-- 60_exceptions.md rule R325: a sample is a natural; one of 2^64 ticks times out a poll entered at 50 and is not lost. -/
theorem test_wide_sample_times_out :
    next? (exec .rdsr (pollCalled (restingIn q0 .plRdsr [.ok [0x01]]) .qnPoll 100 50 [2 ^ 64])) (fun t =>
      ended .timeout 0 0 0 t && t.env.lastSample == 2 ^ 64 && t.hist == [.xfer ⟨[0x05], none, some 1⟩ (.ok [0x01]),
        .clock (2 ^ 64)]) = true := by decide

/-- 46_sequencer.md rule R293 (the lock query, the second chunk) and vectors W13, K3, K8. -/
theorem test_rdsr_queries :
    next? (exec .rdsr (restingIn (running e0 0x03 0xF0 48) .lqRdsr [.ok [0x00]]))
      (fun t => t.q.fsm == .wrWren && t.q.cur == 0xF0 && t.q.chunk == 16) = true
    ∧ next? (exec .rdsr (pollCalled (restingIn (loopAt (running e0 0x03 0xF0 48) 0xF0 0 16) .plRdsr [.ok [0x00]])
        .wrPoll 100 10 [])) (fun t => t.q.fsm == .wrWren && t.q.cur == 0x100 && t.q.doneBytes == 16 && t.q.chunk == 32) = true
    ∧ next? (exec .rdsr (restingIn (running e0 0x03 0x7A0000 256) .lqRdsr [.ok [0x0C]])) (ended .locked 0 0x7A0000 256) = true
    ∧ next? (exec .rdsr (restingIn (running e0 0x09 0x77FFFF 2) .ilRdsr [.ok [0x0C]])) (endedOk 0) = true
    ∧ next? (exec .rdsr (restingIn (running e0 0x09 0x780000 1) .ilRdsr [.ok [0x2E]])) (endedOk 1) = true := by decide

/-- 44_protection_codec.md rule R252, rows (a) to (l), and vectors L13, L14: LOCK's byte. -/
theorem test_lock_byte :
    lockByte Config.p0 0x800000 0x780000 0x80000 0x00 = some 0x0C
    ∧ lockByte Config.p0 0x800000 0x700000 0x80000 0x0C = some 0x10
    ∧ lockByte Config.p0 0x800000 0x700000 0x80000 0x00 = none
    ∧ lockByte Config.p0 0x800000 0x7F0000 0x10000 0x00 = none
    ∧ lockByte Config.p0 0x800000 0x7E0000 0x20000 0x0C = none
    ∧ lockByte Config.p0 0x800000 0x000000 0x800000 0x00 = some 0x1C
    ∧ lockByte Config.p0 0x800000 0x740000 0xC0000 0x00 = some 0x0C
    ∧ lockByte Config.p0 0x800000 0x780000 0x80000 0x42 = some 0x4E
    ∧ lockByte Config.p0 0x800000 0x780000 0x80000 0x0C = some 0x0C
    ∧ lockByte Config.p0 0x800000 0x780000 0x40000 0x08 = some 0x0C
    ∧ lockByte Config.p0 0x800000 0x780000 0x80000 0x1C = none
    ∧ lockByte Config.p0 0x800000 0x7FFFFF 1 0x00 = none
    ∧ lockByte Config.p0 0x600000 0x5A0000 0x60000 0x00 = some 0x0C
    ∧ lockByte Config.p0 0x600000 0x500000 0x100000 0x00 = some 0x10 := by decide

/-- 44_protection_codec.md rule R253, rows (a) to (l), and vectors U13, U14: UNLOCK's byte under `KEEP_TAIL`. -/
theorem test_unlock_byte_keep_tail :
    unlockByte Config.p0 0x800000 0x10000 0x780000 0x80000 0x0C = some 0x00
    ∧ unlockByte Config.p0 0x800000 0x10000 0x7C0000 0x40000 0x0C = none
    ∧ unlockByte Config.p0 0x800000 0x10000 0x780000 0x40000 0x0C = some 0x08
    ∧ unlockByte Config.p0 0x800000 0x10000 0x700000 0x40000 0x08 = none
    ∧ unlockByte Config.p0 0x800000 0x10000 0x600000 0x140000 0x14 = some 0x10
    ∧ unlockByte Config.p0 0x800000 0x10000 0x000000 0x7F0000 0x1C = none
    ∧ unlockByte Config.p0 0x800000 0x10000 0x000000 0x800000 0x1C = some 0x00
    ∧ unlockByte Config.p0 0x800000 0x10000 0x000000 0x400000 0x1C = some 0x18
    ∧ unlockByte Config.p0 0x800000 0x10000 0x100000 0x100000 0x00 = none
    ∧ unlockByte Config.p0 0x800000 0x10000 0x780000 0x80000 0x00 = some 0x00
    ∧ unlockByte Config.p0 0x800000 0x10000 0x780000 0x80000 0x4E = some 0x42
    ∧ unlockByte Config.p0 0x800000 0x10000 0x010000 0x10000 0x1C = none
    ∧ unlockByte Config.p0 0x600000 0x10000 0x300000 0x200000 0x18 = some 0x14
    ∧ unlockByte Config.p0 0x800000 0x10000 0x7F0000 0x8000 0x04 = none := by decide

/-- 44_protection_codec.md rule R253, rows (c) to (f), and vector U13: UNLOCK's byte under `FREE_REQUEST`. -/
theorem test_unlock_byte_free_request :
    let c := { Config.p0 with unlockRound := .freeRequest }
    unlockByte c 0x800000 0x10000 0x780000 0x40000 0x0C = some 0x08
    ∧ unlockByte c 0x800000 0x10000 0x700000 0x40000 0x08 = none
    ∧ unlockByte c 0x800000 0x10000 0x600000 0x140000 0x14 = some 0x0C
    ∧ unlockByte c 0x800000 0x10000 0x000000 0x7F0000 0x1C = none
    ∧ unlockByte c 0x600000 0x10000 0x300000 0x200000 0x18 = some 0x10 := by decide

/-- Vectors L1 and U1, second step: the byte goes to `q.SR_NEW`, the write-enable follows. -/
theorem test_codec_reads :
    next? (exec .rdsr (restingIn (running e0 0x05 0x780000 0x80000) .lkRdsr [.ok [0x42]]))
      (fun t => t.q.fsm == .lkWren && t.q.srOld == 0x42 && t.q.srNew == 0x4E) = true
    ∧ next? (exec .rdsr (restingIn (running e0 0x06 0x780000 0x80000) .ulRdsr [.ok [0x4E]]))
      (fun t => t.q.fsm == .ulWren && t.q.srNew == 0x42) = true
    ∧ next? (exec .rdsr (restingIn (running e0 0x05 0x700000 0x80000) .lkRdsr [.ok [0x00]]))
      (ended .invalidArgument 0 0x700000 0x80000) = true := by decide

/-- Vector F8 and LOCK's last step: success, no poll (44_protection_codec.md rule R244). -/
theorem test_wrsr :
    next? (exec (.wrsr [0x0C]) (restingIn (running e0 0x05 0x780000 0x80000) .lkWrsr [.ok []]))
      (fun t => endedOk 0 t && t.hist == [.xfer ⟨[0x01], some [0x0C], none⟩ (.ok [])]) = true
    ∧ next? (exec (.wrsr [0x0C]) (restingIn (running e0 0x05 0x780000 0x80000) .lkWrsr [.err 3]))
      (fun t => ended .transportError 0 0x780000 0x80000 t && t.rsp.cause == .transport 3) = true := by decide

/-- 42_readiness_poller.md rule R188, rows 7 to 9: RDFSR; both registers must indicate ready. -/
theorem test_rdfsr :
    next? (exec .rdfsr (pollCalled (loopAt (restingIn (running e4 0x03 0 4) .plRdfsr [.ok [0x80]]) 0 0 4) .wrPoll 100 50 []))
      (endedOk 4) = true
    ∧ next? (exec .rdfsr (pollCalled (restingIn (running e4 0x03 0 4) .plRdfsr [.ok [0x00]]) .wrPoll 100 50 [60]))
      (fun t => t.q.fsm == .plRdsr) = true
    ∧ next? (exec .rdfsr (pollCalled (restingIn { e4 with q := { e4.q with srOld := 0x01 } } .plRdfsr [.ok [0x80]]) .wrPoll
        100 50 [60])) (fun t => t.q.fsm == .plRdsr) = true := by decide

/-- Vectors W1 (second step), B1 (second step), L1 (third step). -/
theorem test_wren :
    next? (exec .wren (restingIn (running e0 0x03 0xF0 48) .wrWren [.ok []]))
      (fun t => t.q.fsm == .wrProg && t.hist == [.xfer ⟨[0x06], none, none⟩ (.ok [])]) = true
    ∧ next? (exec .wren (restingIn (loopAt (running e3 0x03 0x101 4) 0x101 0 0) .bwWren [.ok []]))
      (fun t => t.q.fsm == .bwProg && t.q.chunk == 1) = true
    ∧ next? (exec .wren (restingIn (running e0 0x05 0x780000 0x80000) .lkWren [.ok []])) (fun t => t.q.fsm == .lkWrsr)
        = true := by decide

/-- Vectors W10, B7, E11, L15: a failed write-enable. -/
theorem test_wren_fails :
    next? (exec .wren (restingIn (loopAt (running e0 0x03 0xF0 48) 0x100 16 32) .wrWren [.err 5]))
      (fun t => ended .transportError 16 0x100 32 t && t.rsp.cause == .transport 5) = true
    ∧ next? (exec .wren (restingIn (loopAt (running e3 0x03 0x100 4) 0x100 0 0) .bwWren [.err 5]))
      (fun t => t.q.fsm == .bwWrdi && t.q.err == .transportError && t.rsp.failOff == 0x100 && t.rsp.failLen == 4) = true
    ∧ next? (exec .wren (restingIn (loopAt (running e0 0x04 0x10000 0x20000) 0x10000 0 0x10000) .erWren [.err 5]))
      (fun t => t.q.fsm == .erWrdi && t.rsp.failOff == 0x10000 && t.rsp.failLen == 0x10000) = true
    ∧ next? (exec .wren (restingIn (running e0 0x05 0x780000 0x80000) .lkWren [.err 5]))
      (ended .transportError 0 0x780000 0x80000) = true := by decide

/-- Vectors E1, B8: the closing write-disable with nothing latched. -/
theorem test_wrdi :
    next? (exec .wrdi (restingIn (loopAt (running e0 0x04 0x10000 0x20000) 0x30000 0x20000 0x10000) .erWrdi [.ok []]))
      (endedOk 0x20000) = true
    ∧ next? (exec .wrdi (restingIn (loopAt (running e3 0x03 0x100 2) 0x102 2 2) .bwWrdi [.err 4]))
      (fun t => ended .transportError 2 0x100 2 t && t.rsp.cause == .transport 4) = true := by decide

/-- Vector B9: the first error wins, the write-disable's own is dropped. -/
theorem test_wrdi_latched :
    next? (exec .wrdi { restingIn (loopAt (running e3 0x03 0x100 5) 0x102 2 2) .bwWrdi [.err 4] with
        q := { (restingIn (loopAt (running e3 0x03 0x100 5) 0x102 2 2) .bwWrdi []).q with err := .timeout }
        rsp := { Rsp.reset with failOff := 0x102, failLen := 2 } })
      (fun t => ended .timeout 2 0x102 2 t && t.rsp.cause == Rsp.reset.cause) = true := by decide

/-! ## Array frames -/

/-- Vectors R1, R2, R5: READ_FAST and READ deliver their bytes. -/
theorem test_read_frames :
    next? (exec (.readFast 0x1000 4) (restingIn (running e0 0x02 0x1000 4) .rdXfer [.ok [1, 2, 3, 4]]))
      (fun t => endedOk 4 t && t.rsp.rbuf == [1, 2, 3, 4]
        && t.hist == [.xfer ⟨[0x0B, 0x00, 0x10, 0x00, 0x00], none, some 4⟩ (.ok [1, 2, 3, 4])]) = true
    ∧ next? (exec (.readFrame 0x1000 2) (restingIn { running e0 0x02 0x1000 2 with
        dev := { e0.dev with readOpcode := .read, readDummy := 0 } } .rdXfer [.ok [1, 2]]))
      (fun t => endedOk 2 t && t.dev.cmdbuf == [0x03, 0x00, 0x10, 0x00]) = true
    ∧ (restingIn (running e1 0x02 0x1FFFF00 256) .rdXfer []).fetchFrame = some (.readFast 0x1FFFF00 256) := by decide

/-- Vectors R3, R4 and 30_encoding.md rule R102 (two dummy bytes): READ_DUAL, READ_QUAD, READ_QUAD_IO. -/
theorem test_read_wide_frames :
    next? (exec (.readDual 0x1000 1) (restingIn (running e0 0x02 0x1000 1) .rdXfer [.ok [9]]))
      (fun t => endedOk 1 t && t.dev.cmdbuf == [0x3B, 0x00, 0x10, 0x00, 0x00]) = true
    ∧ next? (exec (.readQuad 0x1000 1) (restingIn (running e0 0x02 0x1000 1) .rdXfer [.ok [9]]))
      (fun t => endedOk 1 t && t.dev.cmdbuf == [0x6B, 0x00, 0x10, 0x00, 0x00]) = true
    ∧ next? (exec (.readQuadIo 0x1000 1) (restingIn (running e0 0x02 0x1000 1) .rdXfer [.ok [9]]))
      (fun t => endedOk 1 t && t.rsp.rbuf == [9] && t.dev.cmdbuf == [0xEB, 0x00, 0x10, 0x00, 0x00, 0x00]) = true := by decide

/-- Vectors R8, R9: a short or failed read. -/
theorem test_read_fails :
    next? (exec (.readFast 0x1000 16) (restingIn (running e0 0x02 0x1000 16) .rdXfer [.ok [1, 2, 3, 4, 5, 6, 7, 8]]))
      (fun t => ended .transportError 0 0x1000 16 t && t.rsp.cause == .short) = true
    ∧ next? (exec (.readFast 0x1000 16) (restingIn (running e0 0x02 0x1000 16) .rdXfer [.err 6]))
      (fun t => ended .transportError 0 0x1000 16 t && t.rsp.cause == .transport 6) = true := by decide

/-- Vectors W6, W8 and 46_sequencer.md rule R293 step 4: the program frames of the page loop call the poller. -/
theorem test_page_program :
    next? (exec (.pp 0x7FFFFF [0xAA]) (pollCalled (restingIn (loopAt (running e0 0x03 0x7FFFFF 1) 0x7FFFFF 0 1) .wrProg
        [.ok []]) .erPoll 0 0 [10]))
      (fun t => t.q.fsm == .plRdsr && t.q.ret == .wrPoll && t.q.tmo == 100 && t.q.t0 == 10
        && t.hist == [.xfer ⟨[0x02, 0x7F, 0xFF, 0xFF], some [0xAA], none⟩ (.ok []), .clock 10]) = true
    ∧ next? (exec (.ppQuad 0x200 [1, 2, 3, 4]) (restingIn (loopAt (running e0 0x03 0x200 4) 0x200 0 4) .wrProg [.ok []]))
      (fun t => t.q.fsm == .plRdsr && t.dev.cmdbuf == [0x32, 0x00, 0x02, 0x00]) = true := by decide

/-- Vector W11: a failed program frame. -/
theorem test_page_program_fails :
    next? (exec (.pp 0xF0 [1]) (restingIn (loopAt (running e0 0x03 0xF0 48) 0xF0 0 16) .wrProg [.err 2]))
      (ended .transportError 0 0xF0 16) = true
    ∧ next? (exec (.ppQuad 0xF0 [1]) (restingIn (loopAt (running e0 0x03 0xF0 48) 0xF0 0 16) .wrProg [.err 2]))
      (ended .transportError 0 0xF0 16) = true := by decide

/-- Vectors B1, B5: BP for a single byte, AAI_WP for a pair, chosen by the cursor and what is left. -/
theorem test_unit_program :
    next? (exec (.bp 0x101 [0xA1]) (restingIn (loopAt (running e3 0x03 0x101 4) 0x101 0 1) .bwProg [.ok []]))
      (fun t => t.q.fsm == .plRdsr && t.q.ret == .bwPoll && t.dev.cmdbuf == [0x02, 0x00, 0x01, 0x01]) = true
    ∧ next? (exec (.aaiWp 0x102 [0xA2, 0xA3]) (restingIn (loopAt (running e3 0x03 0x101 4) 0x102 1 2) .bwProg [.ok []]))
      (fun t => t.q.fsm == .plRdsr && t.q.ret == .bwPoll && t.dev.cmdbuf == [0xAD, 0x00, 0x01, 0x02]) = true
    ∧ (restingIn (loopAt { running e3 0x03 0x101 2 with wbuf := [7, 8] } 0x102 1 1) .bwProg []).fetchFrame
        = some (.bp 0x102 [8]) := by decide

/-- Vectors E1, E3, E10: SE and BE_4K call the poller with the erase timeout. -/
theorem test_erase_frames :
    next? (exec (.se 0x20000) (pollCalled (restingIn (loopAt (running e0 0x04 0x10000 0x20000) 0x20000 0x10000 0x10000)
        .erErase [.ok []]) .wrPoll 0 0 [2000]))
      (fun t => t.q.fsm == .plRdsr && t.q.ret == .erPoll && t.q.tmo == 1000 && t.q.t0 == 2000
        && t.dev.cmdbuf == [0xD8, 0x02, 0x00, 0x00]) = true
    ∧ next? (exec (.be4k 0x3000) (restingIn (loopAt (running e3 0x04 0x3000 0x2000) 0x3000 0 0x1000) .erErase [.ok []]))
      (fun t => t.q.fsm == .plRdsr && t.dev.cmdbuf == [0x20, 0x00, 0x30, 0x00]) = true := by decide

/-- Vector E10, steps 8 and 9: the erase poll times out and the error is latched. -/
theorem test_erase_timeout :
    next? (exec .rdsr (pollCalled (restingIn (loopAt (running e0 0x04 0x10000 0x20000) 0x20000 0x10000 0x10000) .plRdsr
        [.ok [0x01]]) .erPoll 1000 2000 [3000]))
      (fun t => t.q.fsm == .erWrdi && t.q.err == .timeout && t.rsp.failOff == 0x20000 && t.rsp.failLen == 0x10000) = true := by
  decide

/-! ## The step -/

/-- Vector X5 (a reserved code), vector R10 (the window's copy), a reset, and no record. -/
theorem test_step :
    next? (step (presented State.reset ⟨0x00, 0x1234, 0x10, []⟩)) (ended .unsupported 0 0x1234 0x10) = true
    ∧ next? (step { restingIn (running e0 0x02 0x1000 2) .rdWin [] with
        env := { Env.silent with windowCopies := [[5, 6]] } })
      (fun t => endedOk 2 t && t.rsp.rbuf == [5, 6] && t.hist == []) = true
    ∧ next? (step { restingIn e0 .wrProg [] with env := { Env.silent with resetLine := true } })
      (fun t => t.q.fsm == .idle && !t.dev.identified && t.hist == []) = true
    ∧ next? (step e0) (fun t => t == e0) = true := by decide

/-- A word of the opcode table placed at reset is what the next step runs (log entries 4 and 14). -/
theorem test_fetch_word :
    (State.reset.withFetchWord 8 0x9F).fetchFrame = some .rdid
    ∧ (State.reset.withFetchWord 8 0x20).fetchFrame = some (.be4k 0)
    ∧ (State.reset.withFetchWord 8 0xAD).fetchFrame = some (.aaiWp 0 [0, 0])
    ∧ next? (step (State.reset.withFetchWord 8 0x01)) (fun t => t.q.fsm == .idRdid && t.q.op == 0x01) = true := by decide

/-- 95_test_vectors.md section 5: a program turns 1 bits into 0 bits; an erase restores the unit; the canonical form. -/
theorem test_chip :
    ((wb 0x00).after Config.p0 (.pp 0x100 [0xF3, 0x55])).mem = [(0x100, 0x03), (0x101, 0x55)]
    ∧ ((wb 0x1C).after Config.p0 (.pp 0x100 [0xF3])).mem = [(0x100, 0x0F)]
    ∧ ((wb 0x00).after Config.p0 (.se 0x1234)).mem = [] ∧ ((wb 0x00).after Config.p0 (.wrsr [0x0F])).sr = 0x0C
    ∧ (wb 0x00).answer Config.p0 (.readFast 0xFF 2) = some (.ok [0xFF, 0x0F]) := by decide

/-- Writing back the erased byte removes the entry, so equal arrays are equal lists. -/
theorem test_memory :
    Memory.write [(1, 0x00), (5, 0x11)] 3 0x22 = [(1, 0x00), (3, 0x22), (5, 0x11)]
    ∧ Memory.write [(1, 0x00), (5, 0x11)] 5 0xFF = [(1, 0x00)] ∧ Memory.read [(1, 0x00)] 2 = 0xFF := by decide

/-! ## Witnesses: for every obligation with hypotheses, a state and operands that meet them -/

/-- Reading a next state off an outcome. -/
theorem of_next? {o : Host.Outcome State Fault Refusal} {p : State → Bool} (h : next? o p = true) :
    ∃ t, o = .next t ∧ p t = true := by
  cases o with
  | next t => exact ⟨t, rfl, h⟩
  | fault _ => cases h
  | refused _ => cases h

/-- The invariant of an idle state with an empty history. -/
theorem inv_of_idle {s : State} (config : s.cfg.wf = true) (idbuf : s.q.idbuf.length = s.cfg.idMaxLen)
    (idle : s.q.fsm = .idle) (derived : s.dev.identified = true → s.devDerived)
    (reserved : s.q.err ≠ .writeProtected ∧ s.rsp.status ≠ .writeProtected) (hist : s.hist = []) (chip : s.chipOk) :
    s.Inv := by
  constructor <;>
    simp_all [State.negotiating, State.pollingFor, FsmState.isPoll, FsmState.isQuad, State.onArray, State.inPageLoop,
      State.inUnitLoop, State.inEraseLoop, State.historyOk, clockSamples]

/-- E0's derived fields are what the derivation gives. -/
theorem devDerived_e0 (env : Env) : { e0 with env := env }.devDerived :=
  ⟨fixtureTable.getD 0 default,
   show firstMatchFrom 0 e0.cfg.chipTable e0.q.idbuf = some (e0.dev.desc, fixtureTable.getD 0 default) by decide,
   show e0.dev = deriveDev e0.cfg e0.dev.desc (fixtureTable.getD 0 default) e0.q.idbuf e0.dev by decide⟩

/-- The invariant holds of E0 identified, idle, in any environment whose chip is as it should be. -/
theorem inv_e0 (env : Env) (chip : { e0 with env := env }.chipOk) : { e0 with env := env }.Inv :=
  inv_of_idle (show e0.cfg.wf = true by decide) (show e0.q.idbuf.length = e0.cfg.idMaxLen by decide) rfl
    (fun _ => devDerived_e0 env) (show e0.q.err ≠ .writeProtected ∧ e0.rsp.status ≠ .writeProtected by decide) rfl chip

/-- A GEOMETRY record at the port of E0 is one of format H. -/
theorem portOk_geometry : (presented e0 ⟨7, 0, 0, []⟩).portOk := by
  intro r h
  cases h
  exact fun h => absurd h (by decide)

/-- A page chunk in flight: the second chunk of vector W1. -/
def pageChunkInFlight : State :=
  { restingIn (loopAt (running e0 0x03 0xF0 48) 0x100 16 32) .wrProg [.ok []] with wbuf := List.replicate 48 7 }

/-- The invariant holds with a page chunk in flight. -/
theorem inv_pageChunkInFlight : pageChunkInFlight.Inv where
  config := by decide
  idbuf := by decide
  derived := fun _ => ⟨fixtureTable.getD 0 default, by decide, by decide⟩
  identifying := by decide
  vendor := fun h => absurd h (by decide)
  payload := fun h => absurd h (by decide)
  range := fun _ => ⟨by decide, by decide, by decide⟩
  window := by decide
  lockQuery := fun h => absurd h (by decide)
  pageLoop := fun _ => ⟨⟨by decide, by decide, by decide⟩, ⟨by decide, by decide, by decide⟩, by decide, fun _ h => nomatch h⟩
  unitStart := fun h => absurd h (by decide)
  unitLoop := fun h => absurd h (by decide)
  unitEnd := fun h => absurd h (by decide)
  eraseLoop := fun h => absurd h (by decide)
  eraseEnd := fun h => absurd h (by decide)
  poll := by decide
  flagStatus := by decide
  reserved := by decide
  history := by
    have h : pageChunkInFlight.hist = [] := rfl
    simp [State.historyOk, h, clockSamples]
  chip := trivial

theorem test_witness_HostBytesRoundTrip :
    Instr.wf ⟨3, 1⟩ (.write 5 2 [1, 2]) = true
    ∧ encodeBytes (.write 5 2 [1, 2])
        = some [3, 0, 0, 0, 0, 0, 0, 0, 5, 0, 0, 0, 0, 0, 0, 0, 2, 0, 0, 0, 0, 0, 0, 0, 1, 2] := by decide

theorem test_witness_FrameRoundTrip :
    Instr.kind (.pp 0xFFFFFF [1]) = some .pp ∧ Instr.wf ⟨3, 1⟩ (.pp 0xFFFFFF [1]) = true := by decide

/-- The codes at both ends of the range and just outside it. -/
theorem test_witness_RecordDecodesByCode :
    decodeRecord ⟨1, 7, 8, []⟩ = .ok (.identify 7 8) ∧ decodeRecord ⟨9, 7, 8, []⟩ = .ok (.isLocked 7 8)
    ∧ decodeRecord ⟨3, 0, 1, [6]⟩ = .ok (.write 0 1 [6])
    ∧ ¬ (1 ≤ (CommandRecord.mk 0 0 0 []).code.toNat ∧ (CommandRecord.mk 0 0 0 []).code.toNat ≤ 9)
    ∧ ¬ (1 ≤ (CommandRecord.mk 10 0 0 []).code.toNat ∧ (CommandRecord.mk 10 0 0 []).code.toNat ≤ 9) := by decide

theorem test_witness_FrameLayout :
    Instr.kind (.se 0x20000) = some .se ∧ encodeFrame Config.p0 ⟨3, 1⟩ (.se 0x20000) = some ⟨[0xD8, 2, 0, 0], none, none⟩
    ∧ Instr.address (.se 0x20000) = some 0x20000 ∧ 0 < 3 ∧ 2 < 3 ∧ addrFits ⟨3, 1⟩ 0xFFFFFF = true := by decide

theorem test_witness_StepRunsCommand :
    e0.cfg.wf = true ∧ e0.env.resetLine = false ∧ e0.q.fsm = .idle ∧ e0.env.port = []
    ∧ (presented e0 ⟨7, 0, 0, []⟩).env.port = ⟨7, 0, 0, []⟩ :: [] ∧ decodeRecord ⟨7, 0, 0, []⟩ = .ok (.geometry 0 0) := by
  decide

theorem test_witness_StepRunsFrame :
    e0.cfg.wf = true ∧ e0.env.resetLine = false ∧ (restingIn e0 .lkWren []).fetchFrame = some .wren
    ∧ (restingIn e0 .rdWin []).q.fsm = .rdWin := by decide

/-- Every rest state is some state's; the negotiation's with a procedure of each payload kind. -/
theorem test_witness_FrameOfEachState :
    (∀ f, (restingIn e0 f []).q.fsm = f)
    ∧ q0.quadProc = some ⟨0x05, 0x01, 0x40, .regOnly⟩ ∧ q1.quadProc = some ⟨0x35, 0x01, 0x02, .srThenReg⟩ :=
  ⟨fun _ => rfl, by decide, by decide⟩

theorem test_witness_ExchangeEffect :
    encodeFrame e0.cfg e0.geom .rdsr = some ⟨[0x05], none, some 1⟩ ∧ e0.env.transport = .oracle
    ∧ (restingIn e0 .lkRdsr [.ok [1, 2]]).env.answers = .ok [1, 2] :: []
    ∧ (restingIn e0 .lkRdsr [.ok [1, 2]]).reply .rdsr = .ok [1] := by decide

/-- A step from `S_IDLE`, from `S_RD_WIN`, and from states that issue a frame, with and without a clock sample. -/
theorem test_witness_OneExchangePerStep :
    (∃ t, step (presented e0 ⟨7, 0, 0, []⟩) = .next t ∧ (t.hist == []) = true)
    ∧ (∃ t, step (restingIn (running e0 0x02 0 1) .rdWin []) = .next t ∧ (t.hist == []) = true)
    ∧ (∃ t, step (restingIn e0 .lkWren [.ok []]) = .next t
        ∧ (t.hist == [.xfer ⟨[0x06], none, none⟩ (.ok [])]) = true)
    ∧ ∃ t, step (pollCalled (restingIn e0 .erErase [.ok []]) .erPoll 0 0 [7]) = .next t
        ∧ (t.hist == [.xfer ⟨[0xD8, 0, 0, 0], none, none⟩ (.ok []), .clock 7]) = true :=
  ⟨of_next? (by decide), of_next? (by decide), of_next? (by decide), of_next? (by decide)⟩

theorem test_witness_BusyKeepsCommand :
    (∃ t, step (restingIn e0 .lkWren [.ok []]) = .next t ∧ (t.q.fsm == .lkWrsr) = true)
    ∧ (restingIn e0 .lkWren []).env.resetLine = false ∧ (restingIn e0 .lkWren []).q.fsm ≠ .idle
    ∧ Instr.isHost (.geometry 0 0) = true ∧ Instr.isHost .wren = false ∧ e0.q.fsm = .idle :=
  ⟨of_next? (by decide), by decide, by decide, by decide, by decide, by decide⟩

/-- The flag rises at the end of IDENTIFY (without and with a negotiation) and falls at a REPROBE, which releases the
window. -/
theorem test_witness_DeviceWrittenByIdentification :
    (∃ t, step (restingIn State.reset .idRdid [.ok [0xC2, 0x20, 0x17, 0, 0]]) = .next t ∧ t.dev.identified = true)
    ∧ (∃ t, step (restingIn q0 .qnRd2 [.ok [0x40]]) = .next t ∧ t.dev.identified = true)
    ∧ ∃ t, step (presented { e0 with dev := { e0.dev with window := true } } ⟨8, 0, 0, []⟩) = .next t
        ∧ (!t.dev.identified && !t.dev.window) = true :=
  ⟨of_next? (by decide), of_next? (by decide), of_next? (by decide)⟩

/-- A step that leaves the failure fields, and one that latches. -/
theorem test_witness_ResponseHeldWhileRunning :
    (∃ t, step (restingIn e0 .lkWren [.ok []]) = .next t ∧ (t.q.fsm != .idle) = true)
    ∧ ∃ t, step (restingIn (loopAt (running e0 0x04 0x10000 0x10000) 0x10000 0 0x10000) .erWren [.err 5]) = .next t
        ∧ (t.q.fsm != .idle && t.rsp.failOff != 0) = true :=
  ⟨of_next? (by decide), of_next? (by decide)⟩

/-- Both ends of the reserved codes. -/
theorem test_witness_ReservedCodeUnsupported :
    e0.cfg.wf = true ∧ e0.env.resetLine = false ∧ e0.q.fsm = .idle
    ∧ (presented e0 ⟨0, 1, 2, []⟩).env.port = ⟨0, 1, 2, []⟩ :: [] ∧ (CommandRecord.mk 0 1 2 []).code = 0
    ∧ 0x0A ≤ (CommandRecord.mk 0x0A 1 2 []).code.toNat ∧ 0x0A ≤ (CommandRecord.mk 0xFF 1 2 []).code.toNat := by decide

theorem test_witness_RefusalsAndConstraints :
    { e0 with cfg := { Config.p0 with idMaxLen := 0 } }.cfg.wf = false
    ∧ e0.cfg.wf = true ∧ (presented e0 ⟨3, 0, 2, [1]⟩).env.port = ⟨3, 0, 2, [1]⟩ :: []
    ∧ (CommandRecord.mk 3 0 2 [1]).code = 0x03 ∧ (CommandRecord.mk 3 0 2 [1]).wbuf.length ≠ (2 : Word64).toNat := by decide

theorem test_witness_ResetAbandonsCommand :
    pageChunkInFlight.cfg.wf = true
    ∧ { pageChunkInFlight with env := { Env.silent with resetLine := true } }.env.resetLine = true := by decide

theorem test_witness_ResetInvariant : Config.p0.wf = true ∧ { Config.p0 with rxMode := .quad }.wf = true := by decide

/-- From an idle state, and with a page chunk in flight. -/
theorem test_witness_StepKeepsInvariant :
    ((presented e0 ⟨7, 0, 0, []⟩).Inv ∧ (presented e0 ⟨7, 0, 0, []⟩).portOk
      ∧ ∃ t, step (presented e0 ⟨7, 0, 0, []⟩) = .next t ∧ (t.rsp.totalSize == 0x800000) = true)
    ∧ pageChunkInFlight.Inv ∧ pageChunkInFlight.portOk
    ∧ ∃ t, step pageChunkInFlight = .next t ∧ (t.q.fsm == .plRdsr && t.q.off == 0xF0) = true :=
  ⟨⟨inv_e0 _ trivial, portOk_geometry, of_next? (by decide)⟩, inv_pageChunkInFlight, (fun _ h => nomatch h),
   of_next? (by decide)⟩

theorem test_witness_StepIsTotal : (presented e0 ⟨7, 0, 0, []⟩).Inv ∧ (presented e0 ⟨7, 0, 0, []⟩).portOk :=
  ⟨inv_e0 _ trivial, portOk_geometry⟩

/-- E0 identified, under the distinct default read opcodes. -/
theorem test_witness_IdentifiedDeviceInvariants :
    e0.cfg.wf = true ∧ e0.dev.identified = true ∧ e0.devDerived
    ∧ [e0.cfg.opc.read, e0.cfg.opc.readFast, e0.cfg.opc.readDual, e0.cfg.opc.readQuad].Nodup :=
  ⟨by decide, by decide, devDerived_e0 Env.silent, by decide⟩

theorem test_witness_IssuedFramesWellFormed :
    pageChunkInFlight.Inv ∧ pageChunkInFlight.fetchFrame = some (.pp 0x100 (List.replicate 32 7)) :=
  ⟨inv_pageChunkInFlight, by decide⟩

/-- The second chunk of vector W1: 32 bytes from a page boundary, to the end of the request. -/
theorem test_witness_ProgramFrameWithinPage :
    pageChunkInFlight.Inv ∧ pageChunkInFlight.fetchFrame = some (.pp 0x100 (List.replicate 32 7)) :=
  ⟨inv_pageChunkInFlight, by decide⟩

theorem test_witness_NoDeviceFirst :
    State.reset.q.fsm = .idle ∧ State.reset.dev.identified = false ∧ arrayCommand (.read 0 0) = some (0, 0) := by decide

theorem test_witness_ZeroLengthSucceeds :
    e0.q.fsm = .idle ∧ e0.dev.identified = true
    ∧ arrayCommand (.lock 0xFFFFFFFFFFFFFFFF 0) = some (0xFFFFFFFFFFFFFFFF, 0) := by decide

/-- One byte beyond the device, and an offset beyond it (vectors X9, X10). -/
theorem test_witness_OutOfRangeRefused :
    e0.q.fsm = .idle ∧ e0.dev.identified = true ∧ arrayCommand (.erase 0x800000 1) = some (0x800000, 1) ∧ (1 : Word64) ≠ 0
    ∧ e0.dev.capacity.toNat - (0x800000 : Word64).toNat < (1 : Word64).toNat
    ∧ e0.dev.capacity.toNat < (0x800001 : Word64).toNat := by decide

theorem test_witness_PartialUnitEraseRefused :
    e0.q.fsm = .idle ∧ e0.dev.identified = true ∧ (0x1800 : Word64) ≠ 0
    ∧ (0 : Word64).toNat + (0x1800 : Word64).toNat ≤ e0.dev.capacity.toNat
    ∧ (0x1800 : Word64).toNat % e0.dev.eraseSize.toNat ≠ 0 := by decide

theorem test_witness_NoProtectionBitsUnsupported :
    e3.q.fsm = .idle ∧ e3.dev.identified = true ∧ e3.dev.protVariant = .none ∧ (0x100000 : Word64) ≠ 0
    ∧ (0 : Word64).toNat + (0x100000 : Word64).toNat ≤ e3.dev.capacity.toNat := by decide

/-- The premises of IDENTIFY's, GEOMETRY's and REPROBE's statements. -/
theorem test_witness_IdentifyAccepted : e0.q.fsm = .idle ∧ State.reset.q.fsm = .idle := by decide

theorem test_witness_GeometryAnswers : e0.q.fsm = .idle ∧ e0.dev.identified = true := by decide

theorem test_witness_ReprobeForgets : e0.q.fsm = .idle ∧ State.reset.q.fsm = .idle := by decide

/-- The last byte of the device. -/
theorem test_witness_ReadAccepted :
    e0.q.fsm = .idle ∧ e0.dev.identified = true ∧ (1 : Word64) ≠ 0
    ∧ (0x7FFFFF : Word64).toNat + (1 : Word64).toNat ≤ e0.dev.capacity.toNat := by decide

/-- Each wiring of the lock check, the collaborator's answers listed and used up. -/
theorem test_witness_WriteAccepted :
    (0x7FFFFF : Word64).toNat + (1 : Word64).toNat ≤ e0.dev.capacity.toNat ∧ e0.cfg.lockQuery = .codec
    ∧ e0.dev.protVariant = .bp ∧ (e0With .absent).cfg.lockQuery = .absent
    ∧ e3.cfg.lockQuery = .codec ∧ e3.dev.protVariant = .none ∧ e3.dev.identified = true
    ∧ (e0With .external).cfg.lockQuery = .external ∧ (e0With .external).env.lockAnswers = []
    ∧ { e0With .external with env := { Env.silent with lockAnswers := [some true] } }.env.lockAnswers.head? = some (some true)
    := by decide

/-- Each wiring of the lock check, with the device's last erase unit, the collaborator's answers listed and used up. -/
theorem test_witness_EraseAccepted :
    (0x7F0000 : Word64).toNat + (0x10000 : Word64).toNat ≤ e0.dev.capacity.toNat
    ∧ (0x10000 : Word64).toNat % e0.dev.eraseSize.toNat = 0 ∧ e0.cfg.lockQuery = .codec ∧ e0.dev.protVariant = .bp
    ∧ (e0With .absent).cfg.lockQuery = .absent ∧ (e0With .external).cfg.lockQuery = .external
    ∧ (e0With .external).env.lockAnswers = []
    ∧ { e0With .external with env := { Env.silent with lockAnswers := [none] } }.env.lockAnswers.head? = some none := by decide

theorem test_witness_ProtectionCommandsAccepted :
    e0.q.fsm = .idle ∧ e0.dev.identified = true ∧ (0x800000 : Word64) ≠ 0 ∧ e0.dev.protVariant = .bp
    ∧ (0 : Word64).toNat + (0x800000 : Word64).toNat ≤ e0.dev.capacity.toNat := by decide

/-- A match and no match. -/
theorem test_witness_FirstMatchIsLeast :
    firstMatchFrom 0 fixtureTable [0x01, 0x02, 0x20, 0x4D, 0x00] = some (5, fixtureTable.getD 5 default)
    ∧ firstMatchFrom 0 fixtureTable [0xFF, 0xFF, 0xFF, 0xFF, 0xFF] = none := by decide

/-- The four read policies, and a descriptor that meets rule R7. -/
theorem test_witness_OpcodePolicy :
    let v (m : RxMode) : Dev := (identifiedAs { Config.p0 with rxMode := m } 0 [0xC2, 0x20, 0x17, 0, 0]).dev
    (v .slow).readMode = .slow ∧ (v .quad).readMode = .quad ∧ (fixtureTable.getD 0 default).flags.rdQuad = true
    ∧ (v .dual).readMode = .dual ∧ (fixtureTable.getD 0 default).flags.rdDual = true ∧ (v .fast).readMode = .fast
    ∧ Config.p0.descriptorOk (fixtureTable.getD 0 default) = true := by decide

/-- E0 and E1, with the 4 KiB erase and without. -/
theorem test_witness_GeometryDerivation :
    Config.p0.descriptorOk (fixtureTable.getD 1 default) = true
    ∧ { Config.p0 with use4k := true }.descriptorOk (fixtureTable.getD 0 default) = true
    ∧ (fixtureTable.getD 0 default).flags.sect4k = true ∧ (fixtureTable.getD 1 default).flags.sect4k = false
    ∧ [0x01, 0x02, 0x19, 0x4D, (0x00 : Byte)].length = Config.p0.idMaxLen
    ∧ 2 * (fixtureTable.getD 1 default).pageSize < 2 ^ 64 := by decide

/-- An answer at least `ID_MAX_LEN` long: unmatched; matched without a quad opcode; with one, the vendor absent or present. -/
theorem test_witness_RdidIdentifies :
    (restingIn State.reset .idRdid [.ok [0xFF, 0xFF, 0xFF, 0xFF, 0xFF]]).reply .rdid = .ok [0xFF, 0xFF, 0xFF, 0xFF, 0xFF]
    ∧ State.reset.cfg.idMaxLen ≤ 5 ∧ firstMatchFrom 0 fixtureTable [0xFF, 0xFF, 0xFF, 0xFF, 0xFF] = none
    ∧ firstMatchFrom 0 fixtureTable [0xC2, 0x20, 0x17, 0, 0] = some (0, fixtureTable.getD 0 default)
    ∧ e0.dev.quadSelected = false ∧ q0.dev.quadSelected = true ∧ q0.cfg.vendorProc 0xC2 = some ⟨0x05, 0x01, 0x40, .regOnly⟩
    ∧ (identifiedAs { Config.p0 with rxMode := .quad } 4 [0x20, 0xBA, 0x18, 0, 0]).dev.quadSelected = true
    ∧ q0.cfg.vendorProc 0x20 = none := by decide

/-- An error, and an answer one byte short. -/
theorem test_witness_RdidFails :
    (restingIn State.reset .idRdid [.err 7]).reply .rdid = .err 7
    ∧ (restingIn State.reset .idRdid [.ok [1, 2, 3, 4]]).reply .rdid = .ok [1, 2, 3, 4] ∧ 4 < State.reset.cfg.idMaxLen := by
  decide

theorem test_witness_ReadBackConfirms :
    q0.quadProc = some ⟨0x05, 0x01, 0x40, .regOnly⟩ ∧ (restingIn q0 .qnRd1 [.ok [0]]).reply (.rdvr 0x05) = .ok [0]
    ∧ (restingIn q0 .qnRd2 [.ok [0x40]]).reply (.rdvr 0x05) = .ok [0x40] ∧ (0x40 : Byte) &&& 0x40 ≠ 0
    ∧ (0x3F : Byte) &&& 0x40 = 0 := by decide

/-- The five states that read the status register outside the poller; a range just locked and one just not (vectors K3,
K4). -/
theorem test_witness_RdsrQueries :
    (restingIn q1 .qnRdsr [.ok [0x0C]]).reply .rdsr = .ok [0x0C] ∧ (restingIn e0 .lqRdsr [.ok [0x0C]]).reply .rdsr = .ok [0x0C]
    ∧ isLockedSr e0.cfg e0.dev.capacity.toNat 0x0C 0x780000 0x80000 = true
    ∧ isLockedSr e0.cfg e0.dev.capacity.toNat 0x0C 0x77FFFF 2 = false
    ∧ (running e0 0x03 0 1).q.op = 0x03 ∧ (running e0 0x04 0 1).q.op = 0x04 := by decide

theorem test_witness_RdsrCodec :
    (restingIn e0 .lkRdsr [.ok [0x42]]).reply .rdsr = .ok [0x42] ∧ (restingIn e0 .lkRdsr []).q.fsm = .lkRdsr
    ∧ (restingIn e0 .ulRdsr []).q.fsm = .ulRdsr := by decide

/-- With and without a flag status register; ready; at the deadline and one tick before it. -/
theorem test_witness_RdsrPolls :
    (restingIn e4 .plRdsr [.ok [0x01]]).reply .rdsr = .ok [0x01] ∧ e4.dev.useFsr = true ∧ e0.dev.useFsr = false
    ∧ (0x02 : Byte) &&& e0.cfg.srWip = 0 ∧ (0x01 : Byte) &&& e0.cfg.srWip ≠ 0
    ∧ 100 ≤ (pollCalled e0 .wrPoll 100 50 [150]).now - (pollCalled e0 .wrPoll 100 50 [150]).q.t0.toNat
    ∧ (pollCalled e0 .wrPoll 100 50 [149]).now - (pollCalled e0 .wrPoll 100 50 [149]).q.t0.toNat < 100 := by decide

theorem test_witness_RdfsrPolls :
    (restingIn e4 .plRdfsr [.ok [0x80]]).reply .rdfsr = .ok [0x80]
    ∧ (e4.q.srOld &&& e4.cfg.srWip = 0 ∧ (0x80 : Byte) &&& e4.cfg.fsrReady ≠ 0)
    ∧ ¬ (e4.q.srOld &&& e4.cfg.srWip = 0 ∧ (0x7F : Byte) &&& e4.cfg.fsrReady ≠ 0)
    ∧ 100 ≤ (pollCalled e4 .wrPoll 100 50 [150]).now - (pollCalled e4 .wrPoll 100 50 [150]).q.t0.toNat
    ∧ (pollCalled e4 .wrPoll 100 50 [149]).now - (pollCalled e4 .wrPoll 100 50 [149]).q.t0.toNat < 100 := by decide

/-- Each label; a chunk that leaves bytes and one that leaves none. -/
theorem test_witness_PollerReturns :
    (∀ l, (pollCalled e0 l 0 0 []).q.ret = l)
    ∧ (((loopAt (running e0 0x03 0xF0 48) 0xF0 0 16).q.doneBytes + 16).toNat < (48 : Word64).toNat)
    ∧ ¬ (((loopAt (running e0 0x03 0xF0 48) 0x100 16 32).q.doneBytes + 32).toNat < (48 : Word64).toNat) :=
  ⟨fun _ => rfl, by decide, by decide⟩

theorem test_witness_PollerFails : ∀ l, (pollCalled e0 l 0 0 []).q.ret = l := fun _ => rfl

theorem test_witness_WrsrEndsCodec :
    (restingIn e0 .lkWrsr [.ok []]).q.fsm = .lkWrsr ∧ (restingIn e0 .lkWrsr [.ok []]).reply (.wrsr [0x0C]) = .ok []
    ∧ (restingIn e0 .ulWrsr [.ok []]).q.fsm = .ulWrsr ∧ (restingIn e0 .ulWrsr [.ok []]).reply (.wrsr [0x00]) = .ok [] := by
  decide

theorem test_witness_WrenEnables :
    ∀ f ∈ [FsmState.qnWren, .wrWren, .bwWren, .erWren, .lkWren, .ulWren],
      (restingIn e0 f [.ok []]).q.fsm = f ∧ (restingIn e0 f [.ok []]).reply .wren = .ok [] := by decide

/-- With nothing latched, the write-disable answered and failed; with a latched error. -/
theorem test_witness_WrdiCloses :
    (∀ f ∈ [FsmState.bwWrdi, .erWrdi], (restingIn e0 f [.ok []]).q.fsm = f ∧ (restingIn e0 f [.ok []]).q.err = .ok
      ∧ (restingIn e0 f [.ok []]).reply .wrdi = .ok [] ∧ (restingIn e0 f [.err 4]).reply .wrdi = .err 4)
    ∧ { e0.q with err := .timeout }.err ≠ .ok := by decide

theorem test_witness_ArrayReadsDeliver :
    ∀ i ∈ [Instr.readFrame 0 2, .readFast 0 2, .readDual 0 2, .readQuad 0 2, .readQuadIo 0 2],
      (restingIn (running e0 0x02 0 2) .rdXfer [.ok [1, 2]]).reply i = .ok [1, 2] ∧ (2 : Word64).toNat ≤ [1, 2].length := by
  decide

theorem test_witness_FramesCallPoller :
    (∀ i ∈ [Instr.pp 0 [1], .ppQuad 0 [1]], (restingIn e0 .wrProg [.ok []]).reply i = .ok [])
    ∧ (∀ i ∈ [Instr.bp 0 [1], .aaiWp 0 [1, 2]], (restingIn e3 .bwProg [.ok []]).reply i = .ok [])
    ∧ (∀ i ∈ [Instr.se 0, .be4k 0], (restingIn e3 .erErase [.ok []]).reply i = .ok [])
    ∧ (restingIn q0 .qnWr [.ok []]).reply (.wrvr 0x01 [0x40]) = .ok []
    ∧ (pollCalled e0 .wrPoll 0 0 [2 ^ 64 - 1]).now < 2 ^ 64 := by decide

/-- An error and a short answer, for each frame outside the loops. -/
theorem test_witness_FailuresOutsideLoops :
    (∀ f ∈ [FsmState.qnRdsr, .lqRdsr, .lkRdsr, .ulRdsr, .ilRdsr],
      (restingIn e0 f [.err 5]).reply .rdsr = .err 5 ∧ (restingIn e0 f [.ok []]).reply .rdsr = .ok [])
    ∧ (restingIn q0 .qnRd1 [.ok []]).reply (.rdvr 0x05) = .ok [] ∧ q0.quadProc = some ⟨0x05, 0x01, 0x40, .regOnly⟩
    ∧ (restingIn e0 .lkWren [.err 5]).reply .wren = .err 5 ∧ (restingIn e0 .ulWrsr [.err 5]).reply (.wrsr [0]) = .err 5
    ∧ (restingIn q0 .qnWr [.err 5]).reply (.wrvr 0x01 [0x40]) = .err 5
    ∧ (restingIn e0 .rdXfer [.ok [1]]).reply (.readFast 0 2) = .ok [1] ∧ [1].length < (2 : Word64).toNat := by decide

/-- An error for each frame of the loops; an error and a short answer for the poller's two reads. -/
theorem test_witness_FailuresInLoops :
    (∀ f ∈ [FsmState.wrWren, .bwWren, .erWren], (restingIn e0 f [.err 5]).reply .wren = .err 5)
    ∧ (restingIn e0 .wrProg [.err 5]).reply (.pp 0 [1]) = .err 5 ∧ (restingIn e0 .bwProg [.err 5]).reply (.bp 0 [1]) = .err 5
    ∧ (restingIn e0 .erErase [.err 5]).reply (.se 0) = .err 5 ∧ (restingIn e0 .plRdsr [.err 5]).reply .rdsr = .err 5
    ∧ (restingIn e4 .plRdfsr [.err 5]).reply .rdfsr = .err 5
    ∧ (restingIn e0 .plRdsr [.ok []]).reply .rdsr = .ok [] ∧ (restingIn e4 .plRdfsr [.ok []]).reply .rdfsr = .ok [] := by decide

/-- The table of 44_protection_codec.md rule R237, its ends; a range exactly the suffix. -/
theorem test_witness_SuffixDecoding :
    Config.p0.wf = true ∧ protField Config.p0 0x1C = 7 ∧ lockLen Config.p0 0x800000 0x1C = 0x800000
    ∧ lockLen Config.p0 0x800000 0x04 = 0x20000 ∧ lockLen Config.p0 0x800000 0xE3 = 0 ∧ 64 ≤ 0x800000
    ∧ protField Config.p0 0x04 < protField Config.p0 0x08 ∧ 0x780000 + 0x80000 ≤ 0x800000 := by decide

/-- A byte taken and a byte refused, for a request to the device's end and for one before it. -/
theorem test_witness_LockByteCorrect :
    Config.p0.wf = true ∧ 0x800000 < 2 ^ 64 ∧ 0x780000 + 0x80000 ≤ 0x800000
    ∧ lockByte Config.p0 0x800000 0x780000 0x80000 0x00 = some 0x0C
    ∧ lockByte Config.p0 0x800000 0x7F0000 0x10000 0x00 = none := by decide

/-- A request to the end and one before it; and each refusal at its bound: the probed unit locked (44_protection_codec.md
rule R253 row b), a tail not encodable and one byte more than that, a suffix that would grow (row i), under both roundings. -/
theorem test_witness_UnlockByteCorrect :
    let free := { Config.p0 with unlockRound := .freeRequest }
    Config.p0.wf = true ∧ free.wf = true ∧ 0x800000 < 2 ^ 64 ∧ 0x780000 + 0x80000 ≤ 0x800000
    ∧ unlockByte Config.p0 0x800000 0x10000 0x780000 0x80000 0x0C = some 0x00
    ∧ unlockByte Config.p0 0x800000 0x10000 0x780000 0x40000 0x0C = some 0x08
    ∧ unlockByte Config.p0 0x800000 0x10000 0x7C0000 0x40000 0x0C = none
    ∧ unlockByte Config.p0 0x800000 0x10000 0 0x7F0000 0x1C = none
    ∧ unlockByte Config.p0 0x800000 0x10000 0 0x7EFFFF 0x1C = some 0x04
    ∧ unlockByte Config.p0 0x800000 0x10000 0x100000 0x100000 0x00 = none
    ∧ unlockByte free 0x800000 0x10000 0 0x7E0001 0x1C = none ∧ unlockByte free 0x800000 0x10000 0 0x7E0000 0x1C = some 0x04
    ∧ unlockByte free 0x800000 0x10000 0x100000 0x100000 0x00 = none := by decide

/-- A program frame and an erase frame behind the chip; the byte after the program's last; a unit at the protected suffix and
one inside it; and no byte at all with the latch clear. -/
theorem test_witness_InstructionsTouchOnlyTheirBytes :
    (behindWb 0 ⟨0, 0, 0, []⟩).env.transport = .wellBehaved (wb 0) ∧ (wb 0).mem.wf
    ∧ (∃ t, exec (.pp 0x100 [0xF3]) (behindWb 0 ⟨0, 0, 0, []⟩) = .next t
        ∧ (t.env.transport == .wellBehaved { wb 0 with mem := [(0x100, 0x03)], wel := false }) = true)
    ∧ (∃ t, exec (.se 0x1234) (behindWb 0 ⟨0, 0, 0, []⟩) = .next t
        ∧ (t.env.transport == .wellBehaved { wb 0 with mem := [], wel := false }) = true)
    ∧ (wb 0).mayChange Config.p0 (.pp 0x100 [0xF3]) 0x100 = true ∧ (wb 0).mayChange Config.p0 (.pp 0x100 [0xF3]) 0x101 = false
    ∧ (wb 0x0C).mayChange Config.p0 (.se 0x77FFFF) 0x770000 = true ∧ (wb 0x0C).mayChange Config.p0 (.se 0x780000) 0x780000 = false
    ∧ (wb 0).mayChange Config.p0 (.be4k 0x1000) 0x0FFF = false ∧ (wb 0).mayChange Config.p0 (.be4k 0x1FFF) 0x1000 = true
    ∧ { wb 0 with wel := false }.mayChange Config.p0 (.pp 0x100 [0xF3]) 0x100 = false :=
  ⟨by decide, by decide, of_next? (by decide), of_next? (by decide), by decide, by decide, by decide, by decide, by decide,
   by decide, by decide⟩

/-- The last byte of the array and a range that holds a programmed byte. -/
theorem test_witness_ReadReturnsArray :
    let s := behindWb 0 (commandRecord 0x02 0xFF 2 [])
    s.cfg.wf = true ∧ s.env.resetLine = false ∧ s.q.fsm = .idle ∧ s.dev.identified = true ∧ s.dev.window = false
    ∧ s.dev.readOpcode ≠ .readQuadIo ∧ s.env.transport = .wellBehaved (wb 0)
    ∧ s.env.port = commandRecord 0x02 0xFF 2 [] :: [] ∧ (2 : Word64) ≠ 0
    ∧ (0x7FFFFE : Word64).toNat + (2 : Word64).toNat ≤ s.dev.capacity.toNat
    ∧ s.dev.capacity.toNat = (wb 0).desc.capacity := by decide

/-- A write of four bytes across a page boundary, below the protected suffix. -/
theorem test_witness_PageWriteProgramsRange :
    let s := behindWb 0x0C (commandRecord 0x03 0xFE 4 [1, 2, 3, 4])
    s.Inv ∧ s.env.resetLine = false ∧ s.q.fsm = .idle ∧ s.dev.identified = true ∧ s.dev.progVariant = .page
    ∧ s.cfg.lockQuery = .codec ∧ s.cfg.srWip = 0x01 ∧ s.cfg.fsrReady = 0x80 ∧ s.env.transport = .wellBehaved (wb 0x0C)
    ∧ s.env.port = commandRecord 0x03 0xFE 4 [1, 2, 3, 4] :: [] ∧ [1, 2, 3, (4 : Byte)].length = (4 : Word64).toNat
    ∧ (0xFE : Word64).toNat + (4 : Word64).toNat ≤ s.dev.capacity.toNat ∧ s.dev.capacity.toNat = (wb 0x0C).desc.capacity
    ∧ (0xFE : Word64).toNat + (4 : Word64).toNat ≤ lockOff s.cfg (wb 0x0C).desc.capacity 0x0C :=
  ⟨inv_e0 _ ⟨by decide, by decide⟩, by decide⟩

/-- An erase that starts exactly at the protected suffix (vector E13), and the same erase after the LOCK of vector L1 on a
chip that protects nothing. -/
theorem test_witness_LockedRangeRefused :
    let r := commandRecord 0x04 0x780000 0x10000 []
    let s := behindWb 0x0C r
    let u := { e0 with env := { Env.silent with transport := .wellBehaved (wb 0),
                                                port := [commandRecord 0x05 0x780000 0x80000 [], r] } }
    (s.Inv ∧ s.env.resetLine = false ∧ s.q.fsm = .idle ∧ s.dev.identified = true ∧ s.dev.protVariant = .bp
      ∧ s.cfg.lockQuery = .codec ∧ s.env.transport = .wellBehaved (wb 0x0C)
      ∧ (0x10000 : Word64).toNat % s.dev.eraseSize.toNat = 0
      ∧ encodeRecord (.erase 0x780000 0x10000) = some r ∧ (0x10000 : Word64) ≠ 0
      ∧ (0x780000 : Word64).toNat + (0x10000 : Word64).toNat ≤ s.dev.capacity.toNat ∧ s.env.port = r :: []
      ∧ 0 < lockLen s.cfg s.dev.capacity.toNat 0x0C ∧ lockOff s.cfg s.dev.capacity.toNat 0x0C ≤ (0x780000 : Word64).toNat)
    ∧ u.Inv ∧ u.env.transport = .wellBehaved (wb 0) ∧ u.env.port = commandRecord 0x05 0x780000 0x80000 [] :: r :: []
    ∧ (0x80000 : Word64) ≠ 0 ∧ (0x780000 : Word64).toNat + (0x80000 : Word64).toNat ≤ u.dev.capacity.toNat
    ∧ 2 ≤ u.cfg.srBpShift
    ∧ lockByte u.cfg u.dev.capacity.toNat (0x780000 : Word64).toNat (0x80000 : Word64).toNat 0x00 = some 0x0C
    ∧ lockOff u.cfg u.dev.capacity.toNat 0x0C ≤ (0x780000 : Word64).toNat :=
  ⟨⟨inv_e0 _ ⟨by decide, by decide⟩, by decide⟩, inv_e0 _ ⟨by decide, by decide⟩, by decide⟩

end Sys2Proof.Tests
end

section
/-!
SUPPORT. What a configuration that meets rule R7 gives: the constraints spelled out, and the numbers of a device derived
from one of its descriptors (41_identification.md rules R153 to R163).
-/

namespace Sys2Proof

/-- A mask with exactly one bit set (45_quad_negotiator.md rule R261). -/
theorem isOneBit_iff (b : Byte) : isOneBit b = true ↔ ∃ k < 8, b = 1#8 <<< k := by
  simp [isOneBit]

/-- What rule R7 asks of a descriptor, the conjunction of checks read as propositions. -/
theorem Config.descriptorOk_iff (c : Config) (d : ChipDescriptor) :
    c.descriptorOk d = true ↔
      (1 ≤ d.idLen ∧ d.idLen ≤ c.idMaxLen) ∧ 1 ≤ d.sectorSize ∧ 1 ≤ d.sectorCount ∧ 1 ≤ d.pageSize
        ∧ d.sectorSize * d.sectorCount < 2 ^ 64 ∧ d.sectorSize * d.sectorCount ≤ 2 ^ (8 * c.addrWidth d)
        ∧ (d.flags.sect4k = true → c.use4k = true → d.sectorSize % 4096 = 0)
        ∧ d.idLen ≤ d.id.length ∧ (1 ≤ c.addrWidth d ∧ c.addrWidth d ≤ 8) := by
  have h4k : ((!(d.flags.sect4k && c.use4k) || decide (d.sectorSize % 4096 = 0)) = true) ↔
      (d.flags.sect4k = true → c.use4k = true → d.sectorSize % 4096 = 0) := by
    cases d.flags.sect4k <;> cases c.use4k <;> simp
  simp only [Config.descriptorOk, Bool.and_eq_true, decide_eq_true_eq, h4k]
  unfold ChipDescriptor.capacity
  tauto

/-- The constraints of rule R7, the conjunction of checks read as propositions (00_scope.md rule R7). -/
theorem Config.wf_iff (c : Config) :
    c.wf = true ↔
      (∀ d ∈ c.chipTable, c.descriptorOk d = true)
        ∧ (∀ m, c.maxWrite = some m → 1 ≤ m) ∧ c.tProg < c.tErase
        ∧ c.srBpMask = 7#8 <<< c.srBpShift ∧ c.srBpShift ≤ 5 ∧ 1 ≤ c.idMaxLen
        ∧ ∀ e ∈ c.quadVendors, isOneBit e.2.bit = true := by
  have hmax : (match c.maxWrite with | none => true | some m => decide (1 ≤ m)) = true ↔
      ∀ m, c.maxWrite = some m → 1 ≤ m := by
    cases c.maxWrite <;> simp
  simp only [Config.wf, Bool.and_eq_true, decide_eq_true_eq, List.all_eq_true]
  tauto

/-- A key of the vendor table has an entry there (45_quad_negotiator.md rule R262). -/
theorem Config.mem_of_vendorProc {c : Config} {vid : Byte} {v : QuadProc} (h : c.vendorProc vid = some v) :
    ∃ e ∈ c.quadVendors, e.2 = v := by
  obtain ⟨e, he, hv⟩ := Option.map_eq_some_iff.1 h
  exact ⟨e, List.mem_of_find?_eq_some he, hv⟩

end Sys2Proof

namespace Sys2Proof.Machine

open Sys2Proof

/-- The scan answers an entry of the table (41_identification.md rule R153). -/
theorem mem_of_firstMatchFrom {ds : List ChipDescriptor} {r : List Byte} {i j : Nat} {d : ChipDescriptor}
    (h : firstMatchFrom i ds r = some (j, d)) : d ∈ ds := by
  induction ds generalizing i with
  | nil => cases h
  | cons e ds ih =>
    simp only [firstMatchFrom] at h
    split at h
    · cases h
      exact List.mem_cons_self
    · exact List.mem_cons_of_mem _ (ih h)

/-! ## The numbers of a derived device -/

section

variable {c : Config} {d : ChipDescriptor} (hd : c.descriptorOk d = true) (i : Nat) (r : List Byte) (old : Dev)

include hd

/-- The capacity fits its register (41_identification.md rule R161). -/
theorem deriveDev_capacity : (deriveDev c i d r old).capacity.toNat = d.sectorSize * d.sectorCount := by
  obtain ⟨-, -, -, -, hcap, -⟩ := (c.descriptorOk_iff d).1 hd
  exact (BitVec.toNat_ofNat _ _).trans (Nat.mod_eq_of_lt hcap)

/-- The address width fits its register (41_identification.md rule R163). -/
theorem deriveDev_addrWidth : (deriveDev c i d r old).addrWidth.toNat = c.addrWidth d := by
  obtain ⟨-, -, -, -, -, -, -, -, -, h8⟩ := (c.descriptorOk_iff d).1 hd
  exact (BitVec.toNat_ofNat _ _).trans (Nat.mod_eq_of_lt (by omega))

/-- The erase unit: the 4 KiB erase, or the native sector (41_identification.md rule R160). -/
theorem deriveDev_eraseSize :
    (deriveDev c i d r old).eraseSize.toNat = if use4kErase c d then 4096 else d.sectorSize := by
  obtain ⟨-, -, hcount, -, hcap, -⟩ := (c.descriptorOk_iff d).1 hd
  have hsector : d.sectorSize < 2 ^ 64 := Nat.lt_of_le_of_lt (Nat.le_mul_of_pos_right _ hcount) hcap
  simp only [deriveDev]
  split
  · rfl
  · exact (BitVec.toNat_ofNat _ _).trans (Nat.mod_eq_of_lt hsector)

theorem deriveDev_eraseSize_pos : 1 ≤ (deriveDev c i d r old).eraseSize.toNat := by
  obtain ⟨-, hsector, -⟩ := (c.descriptorOk_iff d).1 hd
  rw [deriveDev_eraseSize hd]
  split
  · decide
  · exact hsector

theorem deriveDev_pageSize_pos : 1 ≤ (deriveDev c i d r old).pageSize.toNat := by
  obtain ⟨-, -, -, hpage, -⟩ := (c.descriptorOk_iff d).1 hd
  refine pageWord_pos ?_
  unfold derivedPageSize
  split <;> omega

/-- The device holds whole erase units (10_state.md rule R35). -/
theorem deriveDev_capacity_mod_eraseSize :
    (deriveDev c i d r old).capacity.toNat % (deriveDev c i d r old).eraseSize.toNat = 0 := by
  obtain ⟨-, -, -, -, -, -, h4k, -⟩ := (c.descriptorOk_iff d).1 hd
  rw [deriveDev_capacity hd, deriveDev_eraseSize hd]
  split
  · rename_i h
    obtain ⟨hs, hu⟩ := Bool.and_eq_true_iff.1 h
    exact Nat.mod_eq_zero_of_dvd ((Nat.dvd_of_mod_eq_zero (h4k hs hu)).mul_right _)
  · exact Nat.mul_mod_right _ _

end

/-- The read policy answers one of four symbols; of these plain read alone has no dummy cycles (41_identification.md rules
R155, R157). -/
theorem selectRead_ne_readQuadIo (m : RxMode) (f : ChipFlags) : selectRead m f ≠ .readQuadIo := by
  unfold selectRead
  repeat' split
  all_goals decide

theorem dummyCycles_mod_eight (o : ReadOpcode) : (dummyCycles o).toNat % 8 = 0 := by
  cases o <;> rfl

theorem dummyCycles_eq_zero_iff (o : ReadOpcode) : dummyCycles o = 0 ↔ o = .read := by
  cases o <;> decide

/-! ## Derived devices -/

/-- A derived device comes from a descriptor that meets rule R7. -/
theorem State.exists_descriptor_of_devDerived {s : State} (hc : s.cfg.wf = true) (h : s.devDerived) :
    ∃ d, s.cfg.descriptorOk d = true ∧ s.dev = deriveDev s.cfg s.dev.desc d s.q.idbuf s.dev := by
  obtain ⟨d, hmatch, hdev⟩ := h
  exact ⟨d, (s.cfg.wf_iff.1 hc).1 d (mem_of_firstMatchFrom hmatch), hdev⟩

theorem State.eraseSize_pos {s : State} (hc : s.cfg.wf = true) (h : s.devDerived) : 1 ≤ s.dev.eraseSize.toNat := by
  obtain ⟨d, hd, hdev⟩ := State.exists_descriptor_of_devDerived hc h
  rw [hdev]
  exact deriveDev_eraseSize_pos hd _ _ _

theorem State.pageSize_pos {s : State} (hc : s.cfg.wf = true) (h : s.devDerived) : 1 ≤ s.dev.pageSize.toNat := by
  obtain ⟨d, hd, hdev⟩ := State.exists_descriptor_of_devDerived hc h
  rw [hdev]
  exact deriveDev_pageSize_pos hd _ _ _

/-- The flag and the frame buffer are not derived (41_identification.md rules R154, R165; 10_state.md rule R36). -/
theorem State.devDerived_of_dev {s t : State} (h : s.devDerived) (hcfg : t.cfg = s.cfg) (hidbuf : t.q.idbuf = s.q.idbuf)
    (hdev : t.dev = { s.dev with identified := t.dev.identified, cmdbuf := t.dev.cmdbuf }) : t.devDerived := by
  obtain ⟨d, hmatch, hderive⟩ := h
  have hdesc : t.dev.desc = s.dev.desc := by rw [hdev]
  refine ⟨d, by rw [hcfg, hidbuf, hdesc, hmatch], ?_⟩
  rw [hcfg, hidbuf, hdesc]
  calc t.dev = { s.dev with identified := t.dev.identified, cmdbuf := t.dev.cmdbuf } := hdev
    _ = { deriveDev s.cfg s.dev.desc d s.q.idbuf s.dev with
          identified := t.dev.identified, cmdbuf := t.dev.cmdbuf } := by rw [← hderive]
    _ = deriveDev s.cfg s.dev.desc d s.q.idbuf t.dev := rfl

end Sys2Proof.Machine
end

section
/-!
PROOFS. The two refusals with the constraints of rule R7 (O15), and the invariants of an identified device (O20).
-/

namespace Sys2Proof.Machine

open Sys2Proof

theorem step_of_bad_config {s : State} (h : s.cfg.wf = false) : step s = .refused .badConfiguration := if_pos h

/-- A WRITE record whose buffer has another length than it says is no record (30_encoding.md rule R91). -/
theorem decodeRecord_of_bad_buffer {r : CommandRecord} (hcode : r.code = 0x03) (hlen : r.wbuf.length ≠ r.len.toNat) :
    decodeRecord r = .error .bufferLength := by
  simp [decodeRecord, hcode, hlen]

/-- The acceptance step of an idle controller, outside a reset. -/
theorem step_of_idle {s : State} (hc : s.cfg.wf = true) (hr : s.env.resetLine = false) (hf : s.q.fsm = .idle) :
    step s = stepIdle s := by
  simp [step, hc, hr, hf]

/-- Settles O15: the refusals are the first test of the step and the last one of the acceptance step; the constraints are
`Config.wf_iff` with each check read as a proposition. -/
theorem refusalsAndConstraints : Obligations.RefusalsAndConstraints := by
  refine ⟨fun s => step_of_bad_config, fun c => ?_, fun s r rest hc hr hf hport hcode hlen => ?_⟩
  · simp only [Config.wf_iff, Config.descriptorOk_iff, isOneBit_iff]
  · simp only [step_of_idle hc hr hf, stepIdle, hport, decodeRecord_of_bad_buffer hcode hlen]

/-! ## The invariants of an identified device -/

/-- Every address of the device fits the address bytes (10_state.md rule R35; 20_memory.md rule R61). -/
theorem State.capacity_le_addresses {s : State} (hc : s.cfg.wf = true) (h : s.devDerived) :
    s.dev.capacity.toNat ≤ 2 ^ (8 * s.dev.addrWidth.toNat) := by
  obtain ⟨d, hd, hdev⟩ := State.exists_descriptor_of_devDerived hc h
  obtain ⟨-, -, -, -, -, hfits, -⟩ := (s.cfg.descriptorOk_iff d).1 hd
  rw [hdev, deriveDev_capacity hd, deriveDev_addrWidth hd]
  exact hfits

theorem State.capacity_mod_eraseSize {s : State} (hc : s.cfg.wf = true) (h : s.devDerived) :
    s.dev.capacity.toNat % s.dev.eraseSize.toNat = 0 := by
  obtain ⟨d, hd, hdev⟩ := State.exists_descriptor_of_devDerived hc h
  rw [hdev]
  exact deriveDev_capacity_mod_eraseSize hd _ _ _

/-- A derived read symbol and its dummy cycles (41_identification.md rules R155, R157). -/
theorem State.devDerived_read {s : State} (h : s.devDerived) :
    s.dev.readOpcode ≠ .readQuadIo ∧ s.dev.readDummy = dummyCycles s.dev.readOpcode := by
  obtain ⟨d, -, hdev⟩ := h
  rw [hdev]
  exact ⟨selectRead_ne_readQuadIo _ _, rfl⟩

/-- With distinct opcode bytes the selected byte tells plain read from the three reads with dummy cycles. -/
theorem State.readOpcodeByte_eq_read_iff {s : State} (hsel : s.dev.readOpcode ≠ .readQuadIo)
    (hnodup : [s.cfg.opc.read, s.cfg.opc.readFast, s.cfg.opc.readDual, s.cfg.opc.readQuad].Nodup) :
    s.readOpcodeByte = s.cfg.opc.read ↔ s.dev.readOpcode = .read := by
  obtain ⟨hfast, hdual, hquad⟩ : s.cfg.opc.read ≠ s.cfg.opc.readFast ∧ s.cfg.opc.read ≠ s.cfg.opc.readDual
      ∧ s.cfg.opc.read ≠ s.cfg.opc.readQuad := by
    simpa using (List.nodup_cons.1 hnodup).1
  unfold State.readOpcodeByte
  cases hsym : s.dev.readOpcode with
  | read => simp
  | readFast => simp [hfast.symm]
  | readDual => simp [hdual.symm]
  | readQuad => simp [hquad.symm]
  | readQuadIo => exact absurd hsym hsel

/-- A chip whose page of three bytes divides no erase unit. -/
def oddPageChip : ChipDescriptor :=
  { id := [0xC2], idLen := 1, sectorSize := 0x10000, sectorCount := 1, pageSize := 3, flags := {} }

/-- P0 with the odd-page chip alone in the table. -/
def oddPageConfig : Config := { Config.p0 with chipTable := [oddPageChip] }

/-- Right after a successful IDENTIFY of the odd-page chip. -/
def oddPageState : State :=
  let s := State.resetWith oddPageConfig Env.silent
  let r : List Byte := [0xC2, 0, 0, 0, 0]
  { s with dev := { deriveDev oddPageConfig 0 oddPageChip r s.dev with identified := true }, q := { s.q with idbuf := r } }

/-- Settles O20: each invariant is read off the descriptor the device was derived from; the odd-page chip shows that the
erase unit need not be a multiple of the page. -/
theorem identifiedDeviceInvariants : Obligations.IdentifiedDeviceInvariants := by
  refine ⟨fun s hc _ hdev => ?_, oddPageState, by decide, rfl, ⟨oddPageChip, by decide, by decide⟩, by decide⟩
  obtain ⟨hsel, hdummy⟩ := State.devDerived_read hdev
  refine ⟨State.capacity_mod_eraseSize hc hdev, State.capacity_le_addresses hc hdev, ?_, fun hnodup => ?_⟩
  · rw [hdummy]
    exact dummyCycles_mod_eight _
  · rw [State.readOpcodeByte_eq_read_iff hsel hnodup, hdummy, dummyCycles_eq_zero_iff]

end Sys2Proof.Machine
end

section
/-!
SUPPORT. The invariant cut in two: what holds in every rest state (`State.baseOk`) and what the rest state and, for the
poller, the caller stand for (`State.restOk`, `State.callerOk`). A step is then checked row by row: each row of the
transition table says how the next rest state's part follows from the old one's.
-/

namespace Sys2Proof.Machine

open Sys2Proof

/-! ## The two parts -/

/-- The part of the invariant that mentions no rest state. -/
def State.baseOk (s : State) : Prop :=
  s.cfg.wf = true ∧ s.q.idbuf.length = s.cfg.idMaxLen ∧ (s.dev.identified = true → s.devDerived)
    ∧ s.q.err ≠ .writeProtected ∧ s.rsp.status ≠ .writeProtected ∧ s.historyOk ∧ s.chipOk

/-- What a running quad negotiation stands for (45_quad_negotiator.md rule R262). -/
def State.quadOk (s : State) : Prop :=
  s.dev.identified = false ∧ s.devDerived ∧ s.dev.quadSelected = true ∧ ∃ v, s.quadProc = some v

/-- What the poller's caller `l` stands for while it waits (46_sequencer.md rule R281). -/
abbrev State.callerOk (s : State) (l : PollLabel) : Prop :=
  match l with
  | .qnPoll => s.quadOk
  | .wrPoll => s.rangeOk ∧ s.pageLoopOk
  | .bwPoll => s.rangeOk ∧ s.unitLoopOk
  | .erPoll => s.rangeOk ∧ s.eraseLoopOk

/-- The poller's own part: its entry sample, and its caller. -/
def State.pollerOk (s : State) : Prop := s.q.t0.toNat ≤ s.env.lastSample ∧ s.callerOk s.q.ret

/-- What the rest state `f` stands for (46_sequencer.md rule R276). -/
abbrev State.restOk (s : State) (f : FsmState) : Prop :=
  match f with
  | .idle => True
  | .idRdid => s.dev.identified = false
  | .qnRd1 | .qnWren | .qnWr | .qnRd2 => s.quadOk
  | .qnRdsr => s.quadOk ∧ ∃ v, s.quadProc = some v ∧ v.payload = .srThenReg
  | .rdWin => s.rangeOk ∧ s.dev.window = true
  | .rdXfer => s.rangeOk ∧ s.dev.window = false
  | .lqRdsr => s.rangeOk ∧ s.lockQueryOk
  | .wrWren | .wrProg => s.rangeOk ∧ s.pageLoopOk
  | .bwWren => s.rangeOk ∧ s.unitStartOk
  | .bwProg => s.rangeOk ∧ s.unitLoopOk
  | .erWren | .erErase => s.rangeOk ∧ s.eraseLoopOk
  | .bwWrdi | .erWrdi => s.rangeOk ∧ s.closingOk
  | .lkRdsr | .lkWren | .lkWrsr | .ulRdsr | .ulWren | .ulWrsr | .ilRdsr => s.rangeOk
  | .plRdsr => s.pollerOk
  | .plRdfsr => s.pollerOk ∧ s.dev.useFsr = true

/-! ## From the clauses to the two parts -/

theorem State.Inv.baseOk {s : State} (h : s.Inv) : s.baseOk :=
  ⟨h.config, h.idbuf, fun hi => h.derived (by simp [hi]), h.reserved.1, h.reserved.2, h.history, h.chip⟩

/-- The negotiation's clauses of the invariant, together. -/
theorem State.Inv.quadOk {s : State} (h : s.Inv) (hn : s.negotiating = true) : s.quadOk :=
  ⟨h.identifying (by simp [hn]), h.derived (by simp [hn]), h.vendor hn⟩

/-- The poller's clauses of the invariant, together. -/
theorem State.Inv.pollerOk {s : State} (h : s.Inv) (hp : s.q.fsm.isPoll = true) : s.pollerOk := by
  refine ⟨h.poll hp, ?_⟩
  have hq : s.q.fsm.isQuad = false ∧ s.q.fsm ≠ .idle ∧ s.q.fsm ≠ .idRdid := by
    cases hf : s.q.fsm <;> simp_all [FsmState.isPoll, FsmState.isQuad]
  have harray : s.q.ret ≠ .qnPoll → s.rangeOk := fun hr =>
    h.range (by simp [State.onArray, State.negotiating, State.pollingFor, hp, hq, hr])
  cases hr : s.q.ret with
  | qnPoll => exact h.quadOk (by simp [State.negotiating, State.pollingFor, hp, hr])
  | wrPoll => exact ⟨harray (by simp [hr]), h.pageLoop (by simp [State.inPageLoop, State.pollingFor, hp, hr])⟩
  | bwPoll => exact ⟨harray (by simp [hr]), h.unitLoop (by simp [State.inUnitLoop, State.pollingFor, hp, hr])⟩
  | erPoll => exact ⟨harray (by simp [hr]), h.eraseLoop (by simp [State.inEraseLoop, State.pollingFor, hp, hr])⟩

theorem State.Inv.restOk {s : State} (h : s.Inv) : s.restOk s.q.fsm := by
  have hquad : s.q.fsm.isQuad = true → s.quadOk := fun hq => h.quadOk (by simp [State.negotiating, hq])
  have harray : s.q.fsm ≠ .idle → s.q.fsm ≠ .idRdid → s.q.fsm.isQuad = false → s.q.fsm.isPoll = false → s.rangeOk :=
    fun h1 h2 h3 h4 => h.range (by simp [State.onArray, State.negotiating, State.pollingFor, h1, h2, h3, h4])
  cases hf : s.q.fsm <;> rw [hf] at hquad harray
  case idle => trivial
  case idRdid => exact h.identifying (by simp [hf])
  case qnRdsr => exact ⟨hquad rfl, h.payload hf⟩
  case qnRd1 | qnWren | qnWr | qnRd2 => exact hquad rfl
  case plRdsr => exact h.pollerOk (by simp [hf, FsmState.isPoll])
  case plRdfsr => exact ⟨h.pollerOk (by simp [hf, FsmState.isPoll]), h.flagStatus hf⟩
  all_goals have hrange : s.rangeOk := harray nofun nofun rfl rfl
  case rdWin => exact ⟨hrange, h.window.1 hf⟩
  case rdXfer => exact ⟨hrange, h.window.2 hf⟩
  case lqRdsr => exact ⟨hrange, h.lockQuery hf⟩
  case wrWren | wrProg => exact ⟨hrange, h.pageLoop (by simp [State.inPageLoop, hf])⟩
  case bwWren => exact ⟨hrange, h.unitStart hf⟩
  case bwProg => exact ⟨hrange, h.unitLoop (by simp [State.inUnitLoop, hf])⟩
  case erWren | erErase => exact ⟨hrange, h.eraseLoop (by simp [State.inEraseLoop, hf])⟩
  case bwWrdi => exact ⟨hrange, h.unitEnd hf⟩
  case erWrdi => exact ⟨hrange, h.eraseEnd hf⟩
  all_goals exact hrange

/-! ## From the two parts to the clauses -/

section

variable {s : State} (h : s.restOk s.q.fsm)

include h

theorem State.pollerOk_of_restOk (hp : s.q.fsm.isPoll = true) : s.pollerOk := by
  cases hf : s.q.fsm <;> rw [hf] at h hp
  case plRdsr => exact h
  case plRdfsr => exact h.1
  all_goals cases hp

theorem State.callerOk_of_restOk {l : PollLabel} (hp : s.pollingFor l = true) : s.callerOk l := by
  obtain ⟨hpoll, hret⟩ := Bool.and_eq_true_iff.1 hp
  rw [← beq_iff_eq.1 hret]
  exact (State.pollerOk_of_restOk h hpoll).2

theorem State.quadOk_of_restOk (hn : s.negotiating = true) : s.quadOk := by
  rcases Bool.or_eq_true_iff.1 hn with hq | hp
  · cases hf : s.q.fsm <;> rw [hf] at h hq
    case qnRdsr => exact h.1
    case qnRd1 | qnWren | qnWr | qnRd2 => exact h
    all_goals cases hq
  · exact State.callerOk_of_restOk h hp

theorem State.rangeOk_of_restOk (ha : s.onArray = true) : s.rangeOk := by
  simp only [State.onArray, State.negotiating, Bool.and_eq_true, bne_iff_ne, Bool.not_eq_true', Bool.or_eq_false_iff] at ha
  obtain ⟨⟨hidle, hid⟩, hquad, hpoll⟩ := ha
  by_cases hp : s.q.fsm.isPoll = true
  · have hcaller := (State.pollerOk_of_restOk h hp).2
    cases hl : s.q.ret <;> rw [hl] at hcaller
    case qnPoll => simp [State.pollingFor, hp, hl] at hpoll
    all_goals exact hcaller.1
  · cases hf : s.q.fsm <;> rw [hf] at h hidle hid hquad hp
    case idle => exact absurd rfl hidle
    case idRdid => exact absurd rfl hid
    case qnRd1 | qnRdsr | qnWren | qnWr | qnRd2 => cases hquad
    case plRdsr | plRdfsr => exact absurd rfl hp
    case lkRdsr | lkWren | lkWrsr | ulRdsr | ulWren | ulWrsr | ilRdsr => exact h
    all_goals exact h.1

theorem State.pageLoopOk_of_restOk (hl : s.inPageLoop = true) : s.pageLoopOk := by
  simp only [State.inPageLoop, Bool.or_eq_true, beq_iff_eq] at hl
  rcases hl with (hf | hf) | hp
  · rw [hf] at h; exact h.2
  · rw [hf] at h; exact h.2
  · exact (State.callerOk_of_restOk h hp).2

theorem State.unitLoopOk_of_restOk (hl : s.inUnitLoop = true) : s.unitLoopOk := by
  simp only [State.inUnitLoop, Bool.or_eq_true, beq_iff_eq] at hl
  rcases hl with hf | hp
  · rw [hf] at h; exact h.2
  · exact (State.callerOk_of_restOk h hp).2

theorem State.eraseLoopOk_of_restOk (hl : s.inEraseLoop = true) : s.eraseLoopOk := by
  simp only [State.inEraseLoop, Bool.or_eq_true, beq_iff_eq] at hl
  rcases hl with (hf | hf) | hp
  · rw [hf] at h; exact h.2
  · rw [hf] at h; exact h.2
  · exact (State.callerOk_of_restOk h hp).2

/-- The two parts are the whole invariant. -/
theorem State.inv_of (hb : s.baseOk) : s.Inv := by
  obtain ⟨config, idbuf, derived, err, status, history, chip⟩ := hb
  exact
    { config, idbuf, history, chip
      derived := fun hd => (Bool.or_eq_true_iff.1 hd).elim derived fun hn => (State.quadOk_of_restOk h hn).2.1
      identifying := fun hd => (Bool.or_eq_true_iff.1 hd).elim
        (fun hf => by rw [beq_iff_eq.1 hf] at h; exact h) fun hn => (State.quadOk_of_restOk h hn).1
      vendor := fun hn => (State.quadOk_of_restOk h hn).2.2
      payload := fun hf => by rw [hf] at h; exact h.2
      range := State.rangeOk_of_restOk h
      window := ⟨fun hf => by rw [hf] at h; exact h.2, fun hf => by rw [hf] at h; exact h.2⟩
      lockQuery := fun hf => by rw [hf] at h; exact h.2
      pageLoop := State.pageLoopOk_of_restOk h
      unitStart := fun hf => by rw [hf] at h; exact h.2
      unitLoop := State.unitLoopOk_of_restOk h
      unitEnd := fun hf => by rw [hf] at h; exact h.2
      eraseLoop := State.eraseLoopOk_of_restOk h
      eraseEnd := fun hf => by rw [hf] at h; exact h.2
      poll := fun hp => (State.pollerOk_of_restOk h hp).1
      flagStatus := fun hf => by rw [hf] at h; exact h.2
      reserved := ⟨err, status⟩ }

end

end Sys2Proof.Machine
end

section
/-!
SUPPORT. What each operation of a step does to the two parts of the invariant: the exchange, the clock sample, the end of
a command, a loop's next unit, the poller, the identification.
-/

namespace Sys2Proof

/-- The operands a record or a rest state can give an instruction: a WRITE's buffer has its length (30_encoding.md rule
R91), and a vendor's opcode byte is one the configuration can issue (rule R110). -/
def Instr.admissible (c : Config) : Instr → Prop
  | .write _ len wbuf => wbuf.length = len.toNat
  | .rdvr op => op ∈ c.issuable
  | .wrvr op _ => op ∈ c.issuable
  | _ => True

/-- The exchange of an admissible frame is one the interface allows (20_memory.md rule R62; 30_encoding.md rule R110). -/
theorem encodeFrame_legal {c : Config} {g : FrameGeom} {i : Instr} {x : Xfer} (h : encodeFrame c g i = some x)
    (hi : i.admissible c) :
    (∃ op rest, x.cmd = op :: rest ∧ op ∈ c.issuable) ∧ (x.tx = none ∨ x.rxn = none) := by
  cases i
  case rdvr op => cases h; exact ⟨⟨op, [], rfl, hi⟩, .inl rfl⟩
  case wrvr op p => cases h; exact ⟨⟨op, [], rfl, hi⟩, .inr rfl⟩
  case identify | read | write | erase | lock | unlock | geometry | reprobe | isLocked => cases h
  all_goals
    cases h
    exact ⟨⟨_, _, rfl, by simp [Config.issuable]⟩,
      by simp [receiveXfer, sendXfer, silentXfer, arrayReadXfer, programXfer, eraseXfer]⟩

/-- The opcode bytes of a vendor in the table can be issued (30_encoding.md rule R110). -/
theorem Config.vendorProc_issuable {c : Config} {vid : Byte} {v : QuadProc} (h : c.vendorProc vid = some v) :
    v.rdOp ∈ c.issuable ∧ v.wrOp ∈ c.issuable := by
  obtain ⟨e, he, rfl⟩ := Config.mem_of_vendorProc h
  have hsub : ∀ op ∈ [e.2.rdOp, e.2.wrOp], op ∈ c.issuable := fun op hop =>
    List.mem_append_right _ (List.mem_flatMap.2 ⟨e, he, hop⟩)
  exact ⟨hsub _ (by simp), hsub _ (by simp)⟩

end Sys2Proof

namespace Sys2Proof.Machine

open Sys2Proof

/-! ## The history -/

@[simp] theorem clockSamples_append_xfer (h : List Event) (x : Xfer) (r : Answer) :
    clockSamples (h ++ [.xfer x r]) = clockSamples h := by
  simp [clockSamples]

@[simp] theorem clockSamples_append_clock (h : List Event) (t : Nat) :
    clockSamples (h ++ [.clock t]) = clockSamples h ++ [t] := by
  simp [clockSamples]

/-- A clock sample extends the history rightly (60_exceptions.md rule R325). -/
theorem State.afterSample_historyOk {s : State} (h : s.historyOk) : s.afterSample.historyOk := by
  obtain ⟨hlegal, hsorted, hlast⟩ := h
  have hnow : ∀ t ∈ clockSamples s.hist, t ≤ s.now := fun t ht => (hlast t ht).trans s.lastSample_le_now
  refine ⟨fun e he => ?_, ?_, fun t ht => ?_⟩
  · rcases List.mem_append.1 he with he | he
    · exact hlegal e he
    · rw [List.mem_singleton.1 he]
      trivial
  · rw [State.afterSample_hist, clockSamples_append_clock, List.pairwise_append]
    exact ⟨hsorted, List.pairwise_singleton _ _, fun t ht u hu => List.mem_singleton.1 hu ▸ hnow t ht⟩
  · rw [State.afterSample_hist, clockSamples_append_clock] at ht
    rcases List.mem_append.1 ht with ht | ht
    · exact hnow t ht
    · rw [List.mem_singleton.1 ht]
      exact Nat.le_refl _

theorem State.afterSample_baseOk {s : State} (h : s.baseOk) : s.afterSample.baseOk := by
  obtain ⟨config, idbuf, derived, err, status, history, chip⟩ := h
  exact ⟨config, idbuf, derived, err, status, State.afterSample_historyOk history, chip⟩

/-! ## The exchange -/

/-- No frame sets bits 0 and 1 of `WB`'s status register (95_test_vectors.md section 5). -/
theorem Chip.writeRegister_sr {ch : Chip} (p : List Byte) (h : ch.sr &&& 0x03 = 0) :
    (ch.writeRegister p).sr &&& 0x03 = 0 := by
  have hmask : ∀ b : Byte, (b &&& 0xFC) &&& 0x03 = 0 := fun b => by rw [BitVec.and_assoc]; simp
  unfold Chip.writeRegister
  split
  · split
    · exact h
    · exact hmask _
    · exact hmask _
  · exact h

theorem Chip.after_sr {ch : Chip} (c : Config) (i : Instr) (h : ch.sr &&& 0x03 = 0) :
    (ch.after c i).sr &&& 0x03 = 0 := by
  cases i
  case wrsr p => exact Chip.writeRegister_sr p h
  case wrvr op p => exact Chip.writeRegister_sr p h
  case pp | ppQuad => simp only [Chip.after, Chip.programArray]; split <;> exact h
  case bp | aaiWp => simp only [Chip.after, Chip.programUnit]; split <;> exact h
  case se | be4k => simp only [Chip.after, Chip.eraseUnit]; split; split; all_goals exact h
  all_goals exact h

/-- The transport after a frame: the chip has run it, or nothing moved. -/
theorem State.envAfter_transport (s : State) (i : Instr) :
    (s.envAfter i).transport = s.env.transport
      ∨ ∃ ch, s.env.transport = .wellBehaved ch ∧ (s.envAfter i).transport = .wellBehaved (ch.after s.cfg i) := by
  unfold State.envAfter
  split
  · exact .inl rfl
  · split
    · exact .inr ⟨_, ‹_›, rfl⟩
    · exact .inl rfl

theorem State.chipOk_iff (s : State) :
    s.chipOk ↔ ∀ ch, s.env.transport = .wellBehaved ch → ch.mem.wf ∧ ch.sr &&& 0x03 = 0 := by
  unfold State.chipOk
  cases s.env.transport <;> simp

/-- A frame leaves the chip behind the transport as it should be. -/
theorem State.transfer_chipOk {s : State} (i : Instr) (x : Xfer) (h : s.chipOk) : (s.transfer i x).2.chipOk := by
  rw [State.chipOk_iff] at h ⊢
  rw [State.transfer_env]
  intro ch' hch'
  rcases s.envAfter_transport i with hsame | ⟨ch, hch, hafter⟩
  · exact h ch' (hsame.symm.trans hch')
  · obtain ⟨hmem, hsr⟩ := h ch hch
    cases hafter.symm.trans hch'
    exact ⟨Chip.after_wf _ _ hmem, Chip.after_sr _ _ hsr⟩

theorem State.transfer_historyOk {s : State} {i : Instr} {x : Xfer} (hx : encodeFrame s.cfg s.geom i = some x)
    (hi : i.admissible s.cfg) (h : s.historyOk) : (s.transfer i x).2.historyOk := by
  obtain ⟨hlegal, hsorted, hlast⟩ := h
  obtain ⟨hop, hone⟩ := encodeFrame_legal hx hi
  refine ⟨fun e he => ?_, by simpa using hsorted, by simpa using hlast⟩
  rcases List.mem_append.1 he with he | he
  · exact hlegal e he
  · rw [List.mem_singleton.1 he]
    exact ⟨hop, hone, s.answerTo_length x (i := i)⟩

theorem State.exchange_devDerived (s : State) (i : Instr) (h : s.devDerived) : (s.exchange i).2.devDerived :=
  State.devDerived_of_dev h (s.exchange_cfg i) (by rw [s.exchange_q]) (by rw [s.exchange_frame i])

@[simp] theorem State.exchange_unitChunk (s : State) (i : Instr) : (s.exchange i).2.unitChunk = s.unitChunk := by
  unfold State.unitChunk State.bytesLeft
  rw [s.exchange_q]

/-- An exchange leaves what the rest state stands for: it writes `dev.cmdbuf`, the history and the environment only. -/
theorem State.exchange_restOk (s : State) (i : Instr) {f : FsmState} (h : s.restOk f) : (s.exchange i).2.restOk f := by
  have hquad : s.quadOk → (s.exchange i).2.quadOk := fun ⟨hid, hder, hsel, v, hv⟩ =>
    ⟨by simpa using hid, s.exchange_devDerived i hder, by simpa [Dev.quadSelected] using hsel, v,
      by simpa [State.quadProc] using hv⟩
  have hrange : s.rangeOk → (s.exchange i).2.rangeOk := by simp [State.rangeOk]
  have hpage : s.pageLoopOk → (s.exchange i).2.pageLoopOk := by simp [State.pageLoopOk, State.writeHeld, State.cursorOk]
  have hunit : s.unitLoopOk → (s.exchange i).2.unitLoopOk := by simp [State.unitLoopOk, State.writeHeld, State.cursorOk]
  have herase : s.eraseLoopOk → (s.exchange i).2.eraseLoopOk := by
    simp [State.eraseLoopOk, State.eraseHeld, State.cursorOk]
  have hclosing : s.closingOk → (s.exchange i).2.closingOk := by simp [State.closingOk]
  have hpoller : s.pollerOk → (s.exchange i).2.pollerOk := by
    rintro ⟨ht, hc⟩
    refine ⟨by simpa using ht, ?_⟩
    rw [s.exchange_q]
    cases hl : s.q.ret <;> rw [hl] at hc
    case qnPoll => exact hquad hc
    case wrPoll => exact ⟨hrange hc.1, hpage hc.2⟩
    case bwPoll => exact ⟨hrange hc.1, hunit hc.2⟩
    case erPoll => exact ⟨hrange hc.1, herase hc.2⟩
  cases f
  case idle => trivial
  case idRdid => exact (s.exchange_dev_identified i).trans h
  case qnRd1 | qnWren | qnWr | qnRd2 => exact hquad h
  case qnRdsr => exact ⟨hquad h.1, by simpa [State.quadProc] using h.2⟩
  case rdWin | rdXfer => exact ⟨hrange h.1, by simpa using h.2⟩
  case lqRdsr => exact ⟨hrange h.1, by simpa [State.lockQueryOk, State.eraseHeld] using h.2⟩
  case wrWren | wrProg => exact ⟨hrange h.1, hpage h.2⟩
  case bwWren => exact ⟨hrange h.1, by simpa [State.unitStartOk, State.writeHeld] using h.2⟩
  case bwProg => exact ⟨hrange h.1, hunit h.2⟩
  case erWren | erErase => exact ⟨hrange h.1, herase h.2⟩
  case bwWrdi | erWrdi => exact ⟨hrange h.1, hclosing h.2⟩
  case plRdsr => exact hpoller h
  case plRdfsr => exact ⟨hpoller h.1, by simpa using h.2⟩
  all_goals exact hrange h

/-- The exchange of an admissible frame keeps the invariant, in any rest state. -/
theorem State.exchange_inv {s : State} {i : Instr} (h : s.Inv) (hi : i.admissible s.cfg) : (s.exchange i).2.Inv := by
  refine State.inv_of (by rw [s.exchange_q]; exact s.exchange_restOk i h.restOk) ?_
  obtain ⟨config, idbuf, derived, err, status, history, chip⟩ := h.baseOk
  refine ⟨by simpa using config, by simpa using idbuf, fun hid => s.exchange_devDerived i (derived (by simpa using hid)),
    by simpa using err, by simpa using status, ?_⟩
  cases hx : encodeFrame s.cfg s.geom i with
  | none => rw [State.exchange_of_host hx]; exact ⟨history, chip⟩
  | some x =>
    rw [State.exchange_of_frame hx]
    exact ⟨State.transfer_historyOk hx hi history, State.transfer_chipOk i x chip⟩

/-! ## Ends and rest states -/

section

variable {s : State} (hb : s.baseOk)

include hb

/-- The next rest state. -/
theorem State.setFsm_inv {f : FsmState} (hr : s.restOk f) : (s.setFsm f).Inv :=
  State.inv_of (by cases f <;> exact hr) hb

/-- The end of a command, with any status but the reserved one (60_exceptions.md rule R323). -/
theorem State.endWith_inv {st : Status} (hst : st ≠ .writeProtected) (n fo fl : Word64) : (s.endWith st n fo fl).Inv := by
  obtain ⟨config, idbuf, derived, err, -, history, chip⟩ := hb
  exact State.inv_of trivial ⟨config, idbuf, derived, err, hst, history, chip⟩

theorem State.endOk_inv (n : Word64) : (s.endOk n).Inv := State.endWith_inv (st := .ok) hb nofun _ _ _

theorem State.endOutside_inv {st : Status} (hst : st ≠ .writeProtected) : (s.endOutside st).Inv :=
  State.endWith_inv hb hst _ _ _

theorem State.setErr_baseOk {e : Status} (he : e ≠ .writeProtected) : (s.setErr e).baseOk := by
  obtain ⟨config, idbuf, derived, -, status, history, chip⟩ := hb
  exact ⟨config, idbuf, derived, he, status, history, chip⟩

/-- A latched error closes its loop (46_sequencer.md rules R285, R286). -/
theorem State.latch_inv {e : Status} (fo fl : Word64) (hr : s.rangeOk)
    (hcur : s.q.cur.toNat = s.q.off.toNat + s.q.doneBytes.toNat) (hdone : s.q.doneBytes.toNat ≤ s.q.len.toNat)
    (he : e ≠ .ok) (hp : e ≠ .writeProtected) :
    ((s.latch e fo fl).setFsm .bwWrdi).Inv ∧ ((s.latch e fo fl).setFsm .erWrdi).Inv := by
  have hclosing : (s.latch e fo fl).rangeOk ∧ (s.latch e fo fl).closingOk := ⟨hr, hcur, hdone, fun h => absurd h he⟩
  have hbase : (s.latch e fo fl).baseOk := State.setErr_baseOk hb hp
  exact ⟨State.setFsm_inv hbase hclosing, State.setFsm_inv hbase hclosing⟩

/-- A latched error in the middle of a loop. -/
theorem State.latch_inv_of_cursorOk {e : Status} (fo fl : Word64) (hr : s.rangeOk) (hc : s.cursorOk) (he : e ≠ .ok)
    (hp : e ≠ .writeProtected) :
    ((s.latch e fo fl).setFsm .bwWrdi).Inv ∧ ((s.latch e fo fl).setFsm .erWrdi).Inv := by
  obtain ⟨hcur, -, hdone⟩ := hc
  exact State.latch_inv hb fo fl hr hcur (by omega) he hp

end

/-- Both columns of a row of the transition table: whatever is to hold after the step holds after each. -/
theorem State.resume_of {P : State → Prop} {s : State} {a : Answer} {n : Nat} {f : State → State}
    {k : List Byte → State → State} (herr : ∀ c, P (f (s.setCause c))) (hok : P (k (answerBytes a) s)) :
    P (s.resume a n f k) := by
  rcases s.resume_cases a n f k with ⟨c, -, h⟩ | ⟨-, h⟩
  · rw [h]; exact herr c
  · rw [h]; exact hok

/-! ## The loops -/

/-- A loop's cursor after a chunk or unit that is part of what is left: it does not wrap around. -/
theorem State.advance_spec {s : State} {n : Word64} (hr : s.rangeOk)
    (hcur : s.q.cur.toNat = s.q.off.toNat + s.q.doneBytes.toNat) (hn : s.q.doneBytes.toNat + n.toNat ≤ s.q.len.toNat) :
    (s.advance n).q.doneBytes.toNat = s.q.doneBytes.toNat + n.toNat
      ∧ (s.advance n).q.cur.toNat = s.q.off.toNat + (s.advance n).q.doneBytes.toNat := by
  obtain ⟨-, -, hcap⟩ := hr
  have hlt := s.dev.capacity.isLt
  have hdone : (s.advance n).q.doneBytes.toNat = s.q.doneBytes.toNat + n.toNat :=
    (BitVec.toNat_add _ _).trans (Nat.mod_eq_of_lt (by omega))
  have hcur' : (s.advance n).q.cur.toNat = s.q.cur.toNat + n.toNat :=
    (BitVec.toNat_add _ _).trans (Nat.mod_eq_of_lt (by omega))
  exact ⟨hdone, by omega⟩

/-- A multiple of a unit that has not reached another leaves room for one more unit. -/
theorem add_le_of_mod_eq_zero {u a b : Nat} (ha : a % u = 0) (hb : b % u = 0) (h : a < b) : a + u ≤ b := by
  obtain ⟨k, rfl⟩ := Nat.dvd_of_mod_eq_zero ha
  obtain ⟨m, rfl⟩ := Nat.dvd_of_mod_eq_zero hb
  have hkm : k < m := Nat.lt_of_mul_lt_mul_left h
  calc u * k + u = u * (k + 1) := rfl
    _ ≤ u * m := Nat.mul_le_mul_left u hkm

section

variable {s : State} (hb : s.baseOk) (hr : s.rangeOk)

include hb hr

theorem State.devDerived_of_rangeOk : s.devDerived := by
  obtain ⟨-, -, derived, -⟩ := hb
  exact derived hr.1

/-- The page loop at a cursor with bytes left: the chunk the model computes is one (43_program_erase_read.md rules R195,
R198). -/
theorem State.pageChunk_inv (hw : s.writeHeld .page) (hcur : s.q.cur.toNat = s.q.off.toNat + s.q.doneBytes.toNat)
    (hleft : s.q.doneBytes.toNat < s.q.len.toNat) : ((s.setChunk s.pageChunk).setFsm .wrWren).Inv := by
  have hder := State.devDerived_of_rangeOk hb hr
  obtain ⟨-, hmax, -⟩ := s.cfg.wf_iff.1 hb.1
  obtain ⟨hpos, hpart, hpage, hlimit⟩ := s.pageChunk_spec (State.pageSize_pos hb.1 hder) hmax hleft
  exact State.setFsm_inv (s := s.setChunk s.pageChunk) hb ⟨hr, hw, ⟨hcur, hpos, hpart⟩, hpage, hlimit⟩

/-- Byte mode at a cursor with bytes left: the unit the model computes is one (43_program_erase_read.md rule R203). -/
theorem State.unitChunk_inv (hw : s.writeHeld .byte) (hcur : s.q.cur.toNat = s.q.off.toNat + s.q.doneBytes.toNat)
    (herr : s.q.err = .ok) (hleft : s.q.doneBytes.toNat < s.q.len.toNat) :
    ((s.setChunk s.unitChunk).setFsm .bwProg).Inv := by
  obtain ⟨hone, hpart⟩ := s.unitChunk_spec hleft
  have hpos : 1 ≤ s.unitChunk.toNat := by rcases hone with h | h <;> rw [h] <;> decide
  exact State.setFsm_inv (s := s.setChunk s.unitChunk) hb ⟨hr, hw, ⟨hcur, hpos, hpart⟩, herr, rfl⟩

/-- A loop that has done all its bytes, without an error. -/
theorem State.closing_inv (hcur : s.q.cur.toNat = s.q.off.toNat + s.q.doneBytes.toNat)
    (hdone : s.q.doneBytes.toNat = s.q.len.toNat) : (s.setFsm .bwWrdi).Inv ∧ (s.setFsm .erWrdi).Inv := by
  have hclosing : s.rangeOk ∧ s.closingOk := ⟨hr, hcur, hdone.le, fun _ => BitVec.eq_of_toNat_eq hdone⟩
  exact ⟨State.setFsm_inv hb hclosing, State.setFsm_inv hb hclosing⟩

/-- `Cont(S_WR_POLL)` (46_sequencer.md rule R284). -/
theorem State.contPage_inv (hl : s.pageLoopOk) : s.contPage.Inv := by
  obtain ⟨hw, ⟨hcur, -, hpart⟩, -⟩ := hl
  obtain ⟨-, hcur'⟩ := State.advance_spec hr hcur hpart
  simp only [State.contPage]
  split
  · exact State.pageChunk_inv (s := s.advance s.q.chunk) hb hr hw hcur' ‹_›
  · exact State.endOk_inv (s := s.advance s.q.chunk) hb _

/-- `Cont(S_BW_POLL)` (46_sequencer.md rule R285). -/
theorem State.contUnit_inv (hl : s.unitLoopOk) : s.contUnit.Inv := by
  obtain ⟨hw, ⟨hcur, -, hpart⟩, herr, -⟩ := hl
  obtain ⟨hdone, hcur'⟩ := State.advance_spec hr hcur hpart
  simp only [State.contUnit]
  split
  · exact State.unitChunk_inv (s := s.advance s.q.chunk) hb hr hw hcur' herr ‹_›
  · rename_i hend
    exact (State.closing_inv (s := s.advance s.q.chunk) hb hr hcur'
      (Nat.le_antisymm (hdone.trans_le hpart) (Nat.not_lt.1 hend))).1

/-- `Cont(S_ER_POLL)` (46_sequencer.md rule R286): what is done and what is asked for are whole units, so what is left is
too. -/
theorem State.contErase_inv (hl : s.eraseLoopOk) : s.contErase.Inv := by
  obtain ⟨⟨hop, hwhole⟩, ⟨hcur, hpos, hpart⟩, herr, hchunk, hunits⟩ := hl
  rw [hchunk] at hpos hpart
  obtain ⟨hdone, hcur'⟩ := State.advance_spec hr hcur hpart
  have hunits' : (s.advance s.dev.eraseSize).q.doneBytes.toNat % s.dev.eraseSize.toNat = 0 := by
    rw [hdone, Nat.add_mod_right, hunits]
  simp only [State.contErase]
  split
  · rename_i hleft
    have hcursor : (s.advance s.dev.eraseSize).cursorOk := by
      refine ⟨hcur', ?_, ?_⟩ <;> rw [show (s.advance s.dev.eraseSize).q.chunk = s.dev.eraseSize from hchunk]
      · exact hpos
      · exact add_le_of_mod_eq_zero hunits' hwhole hleft
    exact State.setFsm_inv (s := s.advance s.dev.eraseSize) hb ⟨hr, ⟨hop, hwhole⟩, hcursor, herr, hchunk, hunits'⟩
  · rename_i hend
    exact (State.closing_inv (s := s.advance s.dev.eraseSize) hb hr hcur'
      (Nat.le_antisymm (hdone.trans_le hpart) (Nat.not_lt.1 hend))).2

/-- `AfterLQ(a)`: each loop starts with nothing done (46_sequencer.md rule R279). -/
theorem State.afterLQ_inv (a : Option Bool)
    (hl : (s.q.op = 0x03 ∧ s.wbuf.length = s.q.len.toNat) ∨ s.eraseHeld) : (s.afterLQ a).Inv := by
  have hstart : (s.setCursor s.q.off 0).q.cur.toNat
      = (s.setCursor s.q.off 0).q.off.toNat + (s.setCursor s.q.off 0).q.doneBytes.toNat := rfl
  have hleft : (s.setCursor s.q.off 0).q.doneBytes.toNat < s.q.len.toNat := hr.2.1
  unfold State.afterLQ
  split
  · exact State.endOutside_inv hb nofun
  rcases hl with ⟨hop, hbuf⟩ | ⟨hop, hwhole⟩
  · rw [if_pos (by exact hop)]
    cases hv : s.dev.progVariant with
    | page =>
      simp only [State.setCursor_dev, hv]
      exact State.pageChunk_inv (s := s.setCursor s.q.off 0) hb hr ⟨hop, hv, hbuf⟩ hstart hleft
    | byte =>
      simp only [State.setCursor_dev, hv]
      exact State.setFsm_inv (s := (s.setCursor s.q.off 0).setErr .ok) (State.setErr_baseOk hb nofun)
        ⟨hr, ⟨hop, hv, hbuf⟩, rfl, rfl, rfl⟩
  · have hpos := State.eraseSize_pos hb.1 (State.devDerived_of_rangeOk hb hr)
    have hroom : 0 + s.dev.eraseSize.toNat ≤ s.q.len.toNat :=
      add_le_of_mod_eq_zero (Nat.zero_mod _) hwhole hr.2.1
    simp only [State.setCursor_q_op, hop]
    exact State.setFsm_inv (s := ((s.setCursor s.q.off 0).setChunk s.dev.eraseSize).setErr .ok)
      (State.setErr_baseOk hb nofun)
      ⟨hr, ⟨hop, hwhole⟩, ⟨hstart, hpos, hroom⟩, rfl, rfl, Nat.zero_mod _⟩

/-- `LQHead()` under the three wirings (46_sequencer.md rule R279; 44_protection_codec.md rule R236). -/
theorem State.lqHead_inv (hl : (s.q.op = 0x03 ∧ s.wbuf.length = s.q.len.toNat) ∨ s.eraseHeld) : s.lqHead.Inv := by
  unfold State.lqHead
  cases hw : s.cfg.lockQuery with
  | absent => exact State.afterLQ_inv hb hr _ hl
  | external => exact State.afterLQ_inv (s := s.afterLockAnswer) hb hr _ hl
  | codec =>
    cases hv : s.dev.protVariant with
    | none => exact State.afterLQ_inv hb hr _ hl
    | bp => exact State.setFsm_inv hb ⟨hr, hw, hv, hl⟩

end

/-! ## The poller -/

section

variable {s : State} (hb : s.baseOk)

include hb

/-- The poller's call: its entry sample is the clock's last (46_sequencer.md rule R281). -/
theorem State.callPoller_inv (t : Nat) {l : PollLabel} (hc : s.callerOk l) : (s.callPoller t l).Inv :=
  State.setFsm_inv (s := s.afterSample.setPoll s.entryWord (s.timeoutWord t) l) (State.afterSample_baseOk hb)
    ⟨s.entryWord_le_now, by cases l <;> exact hc⟩

/-- `Cont(q.RET)`. -/
theorem State.cont_inv (hc : s.callerOk s.q.ret) : s.cont.Inv := by
  unfold State.cont
  cases hl : s.q.ret <;> rw [hl] at hc
  case qnPoll => exact State.setFsm_inv hb hc
  case wrPoll => exact State.contPage_inv hb hc.1 hc.2
  case bwPoll => exact State.contUnit_inv hb hc.1 hc.2
  case erPoll => exact State.contErase_inv hb hc.1 hc.2

/-- `Fail(q.RET, E)`. -/
theorem State.failPoll_inv {e : Status} (hc : s.callerOk s.q.ret) (he : e ≠ .ok) (hp : e ≠ .writeProtected) :
    (s.failPoll e).Inv := by
  unfold State.failPoll
  cases hl : s.q.ret <;> rw [hl] at hc
  case qnPoll => exact State.endOutside_inv hb hp
  case wrPoll => exact State.endWith_inv hb hp _ _ _
  case bwPoll =>
    obtain ⟨hrange, -, hcursor, -⟩ := hc
    exact (State.latch_inv_of_cursorOk hb _ _ hrange hcursor he hp).1
  case erPoll =>
    obtain ⟨hrange, -, hcursor, -⟩ := hc
    exact (State.latch_inv_of_cursorOk hb _ _ hrange hcursor he hp).2

/-- `Decide(ready)` (46_sequencer.md rule R288). -/
theorem State.decideReady_inv (ready : Bool) (hp : s.pollerOk) : (s.decideReady ready).Inv := by
  obtain ⟨ht, hc⟩ := hp
  rcases s.decideReady_cases ready with ⟨-, h⟩ | ⟨-, -, h⟩ | ⟨-, -, h⟩ <;> rw [h]
  · exact State.cont_inv hb hc
  · exact State.failPoll_inv (State.afterSample_baseOk hb) hc nofun nofun
  · exact State.setFsm_inv (State.afterSample_baseOk hb) ⟨ht.trans s.lastSample_le_now, hc⟩

/-- `S_PL_RDSR` on Ok. -/
theorem State.pollStatus_inv (rx : List Byte) (hp : s.pollerOk) : (s.pollStatus rx).Inv := by
  simp only [State.pollStatus]
  split
  · exact State.setFsm_inv (s := s.setSrOld (rx.headD 0)) hb ⟨hp, ‹_›⟩
  · exact State.decideReady_inv (s := s.setSrOld (rx.headD 0)) hb _ hp

/-- `S_PL_RDFSR` on Ok. -/
theorem State.pollFlagStatus_inv (rx : List Byte) (hp : s.pollerOk) : (s.pollFlagStatus rx).Inv :=
  State.decideReady_inv (s := s.setReg (rx.headD 0)) hb _ hp

/-- The closing write-disable (43_program_erase_read.md rules R205, R211). -/
theorem State.closeWith_inv (a : Answer) : (s.closeWith a).Inv := by
  obtain ⟨-, -, -, herr, -⟩ := id hb
  unfold State.closeWith
  split
  · exact State.endWith_inv hb herr _ _ _
  · split
    · rename_i c _
      exact State.endWith_inv (s := s.setCause c) (st := .transportError) hb nofun _ _ _
    · exact State.endOk_inv hb _

/-! ## Identification -/

/-- The flag rises on a derived device (41_identification.md rule R165). -/
theorem State.identifyDone_inv (hd : s.devDerived) : s.identifyDone.Inv := by
  obtain ⟨config, idbuf, -, err, status, history, chip⟩ := hb
  exact State.endOk_inv (s := s.setIdentified true)
    ⟨config, idbuf, fun _ => State.devDerived_of_dev hd rfl rfl rfl, err, status, history, chip⟩ 0

/-- The derivation, and the negotiation it may ask for (46_sequencer.md rule R282). -/
theorem State.identifyMatched_inv {i : Nat} {d : ChipDescriptor} (hi : s.dev.identified = false)
    (hm : firstMatchFrom 0 s.cfg.chipTable s.q.idbuf = some (i, d)) : (s.identifyMatched i d).Inv := by
  obtain ⟨config, idbuf, -, err, status, history, chip⟩ := hb
  have hder : (s.setDev (deriveDev s.cfg i d s.q.idbuf s.dev)).devDerived := ⟨d, hm, rfl⟩
  have hbase : (s.setDev (deriveDev s.cfg i d s.q.idbuf s.dev)).baseOk :=
    ⟨config, idbuf, fun _ => hder, err, status, history, chip⟩
  simp only [State.identifyMatched]
  split
  · split
    · exact State.endOutside_inv hbase nofun
    · exact State.setFsm_inv hbase ⟨hi, hder, ‹_›, _, ‹_›⟩
  · exact State.identifyDone_inv hbase hder

/-- `S_ID_RDID` on any answer no longer than asked for (46_sequencer.md rule R282). -/
theorem State.identifyAnswered_inv {a : Answer} (hi : s.dev.identified = false)
    (ha : (answerBytes a).length ≤ s.cfg.idMaxLen) : (s.identifyAnswered a).Inv := by
  unfold State.identifyAnswered
  cases a with
  | err c => exact State.endOutside_inv (s := s.setCause (.transport c)) hb nofun
  | ok rx =>
    by_cases hshort : rx.length < s.cfg.idMaxLen
    · simp only [hshort, if_true]
      exact State.endOutside_inv hb nofun
    · simp only [hshort, if_false, State.identifyWith]
      obtain ⟨config, -, -, err, status, history, chip⟩ := hb
      have hbase : (s.setIdbuf rx).baseOk :=
        ⟨config, Nat.le_antisymm ha (Nat.not_lt.1 hshort), fun h => absurd (hi.symm.trans h) nofun, err, status, history,
          chip⟩
      split
      · exact State.endOutside_inv hbase nofun
      · exact State.identifyMatched_inv hbase hi ‹_›

/-- The read-back of the negotiation (45_quad_negotiator.md rule R266). -/
theorem State.quadReadBack_inv (v : QuadProc) (rx : List Byte) (hq : s.quadOk) : (s.quadReadBack v rx).Inv := by
  obtain ⟨-, hder, -⟩ := hq
  simp only [State.quadReadBack]
  split
  · exact State.identifyDone_inv (s := s.setReg (rx.headD 0)) hb hder
  · exact State.endOutside_inv (s := s.setReg (rx.headD 0)) hb nofun

/-- The first read of the negotiation (46_sequencer.md rule R282). -/
theorem State.quadFirstRead_inv {v : QuadProc} (rx : List Byte) (hq : s.quadOk) (hv : s.quadProc = some v) :
    (s.quadFirstRead v rx).Inv := by
  simp only [State.quadFirstRead]
  cases hp : v.payload with
  | srThenReg => exact State.setFsm_inv (s := s.setReg (rx.headD 0)) hb ⟨hq, v, hv, hp⟩
  | regOnly => exact State.setFsm_inv (s := s.setReg (rx.headD 0)) hb hq

/-! ## The codec -/

/-- `S_LK_RDSR` on Ok (46_sequencer.md rule R287). -/
theorem State.lockRead_inv (hr : s.rangeOk) (rx : List Byte) : (s.lockRead rx).Inv := by
  simp only [State.lockRead]
  split
  · exact State.endOutside_inv (s := s.setSrOld (rx.headD 0)) (st := .invalidArgument) hb nofun
  · rename_i new _
    exact State.setFsm_inv (s := (s.setSrOld (rx.headD 0)).setSrNew new) (f := .lkWren) hb hr

/-- `S_UL_RDSR` on Ok (46_sequencer.md rule R287). -/
theorem State.unlockRead_inv (hr : s.rangeOk) (rx : List Byte) : (s.unlockRead rx).Inv := by
  simp only [State.unlockRead]
  split
  · exact State.endOutside_inv (s := s.setSrOld (rx.headD 0)) (st := .invalidArgument) hb nofun
  · rename_i new _
    exact State.setFsm_inv (s := (s.setSrOld (rx.headD 0)).setSrNew new) (f := .ulWren) hb hr

/-! ## The common head -/

/-- Behind `Precheck()` the range is checked; its own ends keep the invariant (60_exceptions.md rule R315). -/
theorem State.withPrecheck_inv {k : State → State} (hk : s.rangeOk → (k s).Inv) : (s.withPrecheck k).Inv := by
  unfold State.withPrecheck
  rcases s.precheck_cases with ⟨-, h⟩ | ⟨-, -, h⟩ | ⟨-, -, -, h⟩ | ⟨hr, h⟩ <;> rw [h]
  · exact State.endOutside_inv hb nofun
  · exact State.endOutside_inv hb nofun
  · exact State.endOutside_inv hb nofun
  · exact hk hr

/-- The head of LOCK, UNLOCK and IS_LOCKED, towards a rest state that asks for a checked range only. -/
theorem State.protectionHead_inv {f : FsmState} (hf : s.rangeOk → s.restOk f) : (s.protectionHead f).Inv := by
  refine State.withPrecheck_inv hb fun hr => ?_
  cases hv : s.dev.protVariant with
  | none => exact State.endOutside_inv hb nofun
  | bp => exact State.setFsm_inv hb (hf hr)

end

end Sys2Proof.Machine
end

section
/-!
PROOFS. Every instruction, with operands a record or a rest state can give it, keeps the invariant in any rest state;
so does every step (O18). The invariant holds right after reset (O17).
-/

namespace Sys2Proof.Machine

open Sys2Proof

/-! ## The host commands -/

/-- A command taken in `S_IDLE`, or ignored in any other rest state (30_encoding.md rule R90). -/
theorem State.whenIdle_inv {s : State} (h : s.Inv) {k : State → State} (hk : (k s).Inv) : (s.whenIdle k).Inv := by
  unfold State.whenIdle
  split
  · exact hk
  · exact h

section

variable {s : State} (h : s.Inv) (off len : Word64)

include h

theorem execIdentify_inv : ∃ t, execIdentify off len s = .next t ∧ t.Inv := by
  refine ⟨_, rfl, State.whenIdle_inv h ?_⟩
  cases hi : s.dev.identified with
  | true => simpa [hi] using State.endOk_inv (s := s.load 0x01 off len) h.baseOk 0
  | false => simpa [hi] using State.setFsm_inv (s := s.load 0x01 off len) (f := .idRdid) h.baseOk hi

theorem execGeometry_inv : ∃ t, execGeometry off len s = .next t ∧ t.Inv := by
  refine ⟨_, rfl, State.whenIdle_inv h ?_⟩
  dsimp only
  split
  · exact State.endOk_inv (s := (s.load 0x07 off len).setGeometry s.dev.capacity s.dev.eraseSize s.dev.pageSize) h.baseOk 0
  · exact State.endOutside_inv (s := s.load 0x07 off len) h.baseOk nofun

/-- A forgotten device claims nothing (41_identification.md rule R170). -/
theorem execReprobe_inv : ∃ t, execReprobe off len s = .next t ∧ t.Inv := by
  refine ⟨_, rfl, State.whenIdle_inv h ?_⟩
  obtain ⟨config, idbuf, -, err, status, history, chip⟩ := h.baseOk
  exact State.endOk_inv (s := (s.load 0x08 off len).setDev { s.dev with identified := false, window := false })
    ⟨config, idbuf, nofun, err, status, history, chip⟩ 0

theorem execRead_inv : ∃ t, execRead off len s = .next t ∧ t.Inv := by
  refine ⟨_, rfl, State.whenIdle_inv h ?_⟩
  have hb : (s.load 0x02 off len).baseOk := h.baseOk
  rcases (s.load 0x02 off len).precheck_cases with ⟨-, hp⟩ | ⟨-, -, hp⟩ | ⟨-, -, -, hp⟩ | ⟨hr, hp⟩
  all_goals simp only [hp]
  · exact State.endOutside_inv (s := (s.load 0x02 off len).spoilRbuf) hb nofun
  · exact State.endOutside_inv (s := (s.load 0x02 off len).setRbuf []) hb nofun
  · exact State.endOutside_inv (s := (s.load 0x02 off len).spoilRbuf) hb nofun
  · cases hw : s.dev.window with
    | true => simpa [hw] using State.setFsm_inv (f := .rdWin) hb ⟨hr, hw⟩
    | false => simpa [hw] using State.setFsm_inv (f := .rdXfer) hb ⟨hr, hw⟩

theorem execWrite_inv {wbuf : List Byte} (hlen : wbuf.length = len.toNat) :
    ∃ t, execWrite off len wbuf s = .next t ∧ t.Inv := by
  refine ⟨_, rfl, State.whenIdle_inv h ?_⟩
  have hb : ((s.load 0x03 off len).holdBuffer wbuf).baseOk := h.baseOk
  exact State.withPrecheck_inv hb fun hr => State.lqHead_inv hb hr (.inl ⟨rfl, hlen⟩)

theorem execErase_inv : ∃ t, execErase off len s = .next t ∧ t.Inv := by
  refine ⟨_, rfl, State.whenIdle_inv h ?_⟩
  have hb : (s.load 0x04 off len).baseOk := h.baseOk
  refine State.withPrecheck_inv hb fun hr => ?_
  split
  · exact State.lqHead_inv hb hr (.inr ⟨rfl, ‹_›⟩)
  · exact State.endOutside_inv hb nofun

theorem execLock_inv : ∃ t, execLock off len s = .next t ∧ t.Inv :=
  ⟨_, rfl, State.whenIdle_inv h (State.protectionHead_inv (s := s.load 0x05 off len) h.baseOk id)⟩

theorem execUnlock_inv : ∃ t, execUnlock off len s = .next t ∧ t.Inv :=
  ⟨_, rfl, State.whenIdle_inv h (State.protectionHead_inv (s := s.load 0x06 off len) h.baseOk id)⟩

theorem execIsLocked_inv : ∃ t, execIsLocked off len s = .next t ∧ t.Inv :=
  ⟨_, rfl, State.whenIdle_inv h (State.protectionHead_inv (s := s.load 0x09 off len) h.baseOk id)⟩

end

/-! ## The array frames

Each lemma speaks of the state `u` after the exchange. -/

section

variable {u : State} (h : u.Inv) (a : Answer)

include h

theorem State.afterArrayRead_inv (n : Word64) : (u.afterArrayRead a n).Inv := by
  unfold State.afterArrayRead
  split
  · exact State.resume_of (fun c => State.endOutside_inv (s := (u.setCause c).spoilRbuf) h.baseOk nofun)
      (State.endOk_inv (s := u.setRbuf (answerBytes a)) h.baseOk _)
  · exact h

theorem State.afterPageProgram_inv : (u.afterPageProgram a).Inv := by
  have hr := h.restOk
  unfold State.afterPageProgram
  split
  · rename_i hf
    rw [hf] at hr
    exact State.resume_of
      (fun c => State.endWith_inv (s := u.setCause c) (st := .transportError) h.baseOk nofun _ _ _)
      (State.callPoller_inv (l := .wrPoll) h.baseOk _ hr)
  · exact h

theorem State.afterUnitProgram_inv : (u.afterUnitProgram a).Inv := by
  have hr := h.restOk
  unfold State.afterUnitProgram
  split
  · rename_i hf
    rw [hf] at hr
    obtain ⟨hrange, -, hcursor, -⟩ := id hr
    exact State.resume_of
      (fun c => (State.latch_inv_of_cursorOk (s := u.setCause c) (e := .transportError) h.baseOk _ _ hrange hcursor
        nofun nofun).1)
      (State.callPoller_inv (l := .bwPoll) h.baseOk _ hr)
  · exact h

theorem State.afterEraseFrame_inv : (u.afterEraseFrame a).Inv := by
  have hr := h.restOk
  unfold State.afterEraseFrame
  split
  · rename_i hf
    rw [hf] at hr
    obtain ⟨hrange, -, hcursor, -⟩ := id hr
    exact State.resume_of
      (fun c => (State.latch_inv_of_cursorOk (s := u.setCause c) (e := .transportError) h.baseOk _ _ hrange hcursor
        nofun nofun).2)
      (State.callPoller_inv (l := .erPoll) h.baseOk _ hr)
  · exact h

theorem State.transportFailed_inv (c : Cause) : (u.setCause c).transportFailed.Inv :=
  State.endOutside_inv (s := u.setCause c) h.baseOk nofun

end

/-! ## The register frames -/

section

variable {s : State}

/-- What the transport answers to RDID is no longer than asked for (20_memory.md rule R62). -/
theorem State.exchange_rdid_length (s : State) : (answerBytes (s.exchange .rdid).1).length ≤ s.cfg.idMaxLen := by
  have hx : encodeFrame s.cfg s.geom .rdid = some (receiveXfer s.cfg.opc.rdid s.cfg.idMaxLen) := rfl
  rw [State.exchange_of_frame hx]
  exact s.answerTo_length _ _

theorem execRdid_inv (h : (s.exchange .rdid).2.Inv) : ∃ t, execRdid s = .next t ∧ t.Inv := by
  have hlen : (answerBytes (s.exchange .rdid).1).length ≤ (s.exchange .rdid).2.cfg.idMaxLen := by
    rw [s.exchange_cfg]
    exact s.exchange_rdid_length
  refine ⟨_, rfl, ?_⟩
  generalize s.exchange .rdid = p at h hlen ⊢
  have hr := h.restOk
  split
  · rename_i hf
    rw [hf] at hr
    exact State.identifyAnswered_inv h.baseOk hr hlen
  · exact h

theorem execRdsr_inv (h : (s.exchange .rdsr).2.Inv) : ∃ t, execRdsr s = .next t ∧ t.Inv := by
  refine ⟨_, rfl, ?_⟩
  generalize s.exchange .rdsr = p at h ⊢
  obtain ⟨a, u⟩ := p
  have hb := h.baseOk
  have hr := h.restOk
  dsimp only at h hb hr ⊢
  have herr := State.transportFailed_inv h
  cases hf : u.q.fsm <;> rw [hf] at hr
  case qnRdsr =>
    exact State.resume_of herr (State.setFsm_inv (s := u.setSrOld ((answerBytes a).headD 0)) (f := .qnWren) hb hr.1)
  case lqRdsr =>
    obtain ⟨hrange, -, -, hl⟩ := hr
    exact State.resume_of herr (State.afterLQ_inv hb hrange _ hl)
  case lkRdsr => exact State.resume_of herr (State.lockRead_inv hb hr _)
  case ulRdsr => exact State.resume_of herr (State.unlockRead_inv hb hr _)
  case ilRdsr => exact State.resume_of herr (State.endOk_inv hb _)
  case plRdsr =>
    exact State.resume_of (fun c => State.failPoll_inv (s := u.setCause c) hb hr.2 nofun nofun)
      (State.pollStatus_inv hb _ hr)
  all_goals exact h

theorem execWrsr_inv (p : List Byte) (h : (s.exchange (.wrsr p)).2.Inv) : ∃ t, execWrsr p s = .next t ∧ t.Inv := by
  refine ⟨_, rfl, ?_⟩
  generalize s.exchange (.wrsr p) = p at h ⊢
  obtain ⟨a, u⟩ := p
  dsimp only at h ⊢
  split
  · exact State.resume_of (State.transportFailed_inv h) (State.endOk_inv h.baseOk 0)
  · exact State.resume_of (State.transportFailed_inv h) (State.endOk_inv h.baseOk 0)
  · exact h

theorem execRdfsr_inv (h : (s.exchange .rdfsr).2.Inv) : ∃ t, execRdfsr s = .next t ∧ t.Inv := by
  refine ⟨_, rfl, ?_⟩
  generalize s.exchange .rdfsr = p at h ⊢
  obtain ⟨a, u⟩ := p
  have hr := h.restOk
  dsimp only at h hr ⊢
  split
  · rename_i hf
    rw [hf] at hr
    exact State.resume_of (fun c => State.failPoll_inv (s := u.setCause c) h.baseOk hr.1.2 nofun nofun)
      (State.pollFlagStatus_inv h.baseOk _ hr.1)
  · exact h

theorem execWren_inv (h : (s.exchange .wren).2.Inv) : ∃ t, execWren s = .next t ∧ t.Inv := by
  refine ⟨_, rfl, ?_⟩
  generalize s.exchange .wren = p at h ⊢
  obtain ⟨a, u⟩ := p
  have hb := h.baseOk
  have hr := h.restOk
  dsimp only at h hb hr ⊢
  have herr := State.transportFailed_inv h
  cases hf : u.q.fsm <;> rw [hf] at hr
  case qnWren => exact State.resume_of herr (State.setFsm_inv (f := .qnWr) hb hr)
  case wrWren =>
    exact State.resume_of
      (fun c => State.endWith_inv (s := u.setCause c) (st := .transportError) hb nofun _ _ _)
      (State.setFsm_inv (f := .wrProg) hb hr)
  case bwWren =>
    obtain ⟨hrange, hw, hcur, hdone, herrOk⟩ := hr
    have hcursor : u.q.cur.toNat = u.q.off.toNat + u.q.doneBytes.toNat := by rw [hcur, hdone]; rfl
    have hzero : u.q.doneBytes.toNat = 0 := by rw [hdone]; rfl
    refine State.resume_of
      (fun c => (State.latch_inv (s := u.setCause c) (e := .transportError) hb _ _ hrange hcursor (hzero ▸ Nat.zero_le _)
        nofun nofun).1) ?_
    exact State.unitChunk_inv hb hrange hw hcursor herrOk (hzero ▸ hrange.2.1)
  case erWren =>
    obtain ⟨hrange, -, hcursor, -⟩ := id hr
    exact State.resume_of
      (fun c => (State.latch_inv_of_cursorOk (s := u.setCause c) (e := .transportError) hb _ _ hrange hcursor nofun nofun).2)
      (State.setFsm_inv (f := .erErase) hb hr)
  case lkWren => exact State.resume_of herr (State.setFsm_inv (f := .lkWrsr) hb hr)
  case ulWren => exact State.resume_of herr (State.setFsm_inv (f := .ulWrsr) hb hr)
  all_goals exact h

theorem execWrdi_inv (h : (s.exchange .wrdi).2.Inv) : ∃ t, execWrdi s = .next t ∧ t.Inv := by
  refine ⟨_, rfl, ?_⟩
  split
  · exact State.closeWith_inv h.baseOk _
  · exact State.closeWith_inv h.baseOk _
  · exact h

theorem execRdvr_inv (op : Byte) (h : (s.exchange (.rdvr op)).2.Inv) : ∃ t, execRdvr op s = .next t ∧ t.Inv := by
  refine ⟨_, rfl, ?_⟩
  generalize s.exchange (.rdvr op) = p at h ⊢
  obtain ⟨a, u⟩ := p
  have hr := h.restOk
  dsimp only at h hr ⊢
  split
  · rename_i hv hf
    rw [hf] at hr
    exact State.resume_of (State.transportFailed_inv h) (State.quadFirstRead_inv h.baseOk _ hr hv)
  · rename_i hv hf
    rw [hf] at hr
    exact State.resume_of (State.transportFailed_inv h) (State.quadReadBack_inv h.baseOk _ _ hr)
  · exact h

theorem execWrvr_inv (op : Byte) (p : List Byte) (h : (s.exchange (.wrvr op p)).2.Inv) :
    ∃ t, execWrvr op p s = .next t ∧ t.Inv := by
  refine ⟨_, rfl, ?_⟩
  generalize s.exchange (.wrvr op p) = p at h ⊢
  obtain ⟨a, u⟩ := p
  have hr := h.restOk
  dsimp only at h hr ⊢
  split
  · rename_i hf
    rw [hf] at hr
    exact State.resume_of (State.transportFailed_inv h) (State.callPoller_inv (l := .qnPoll) h.baseOk _ hr)
  · exact h

end

/-! ## The step -/

/-- Every admissible instruction keeps the invariant, in any rest state. -/
theorem exec_inv {s : State} {i : Instr} (h : s.Inv) (hi : i.admissible s.cfg) : ∃ t, exec i s = .next t ∧ t.Inv := by
  have hx : (s.exchange i).2.Inv := State.exchange_inv h hi
  cases i with
  | identify off len => exact execIdentify_inv h off len
  | read off len => exact execRead_inv h off len
  | write off len wbuf => exact execWrite_inv h off len hi
  | erase off len => exact execErase_inv h off len
  | lock off len => exact execLock_inv h off len
  | unlock off len => exact execUnlock_inv h off len
  | geometry off len => exact execGeometry_inv h off len
  | reprobe off len => exact execReprobe_inv h off len
  | isLocked off len => exact execIsLocked_inv h off len
  | rdid => exact execRdid_inv hx
  | rdsr => exact execRdsr_inv hx
  | wrsr p => exact execWrsr_inv p hx
  | rdfsr => exact execRdfsr_inv hx
  | wren => exact execWren_inv hx
  | wrdi => exact execWrdi_inv hx
  | rdvr op => exact execRdvr_inv op hx
  | wrvr op p => exact execWrvr_inv op p hx
  | readFrame a n => exact ⟨_, rfl, State.afterArrayRead_inv hx _ n⟩
  | readFast a n => exact ⟨_, rfl, State.afterArrayRead_inv hx _ n⟩
  | readDual a n => exact ⟨_, rfl, State.afterArrayRead_inv hx _ n⟩
  | readQuad a n => exact ⟨_, rfl, State.afterArrayRead_inv hx _ n⟩
  | readQuadIo a n => exact ⟨_, rfl, State.afterArrayRead_inv hx _ n⟩
  | pp a d => exact ⟨_, rfl, State.afterPageProgram_inv hx _⟩
  | ppQuad a d => exact ⟨_, rfl, State.afterPageProgram_inv hx _⟩
  | bp a d => exact ⟨_, rfl, State.afterUnitProgram_inv hx _⟩
  | aaiWp a d => exact ⟨_, rfl, State.afterUnitProgram_inv hx _⟩
  | se a => exact ⟨_, rfl, State.afterEraseFrame_inv hx _⟩
  | be4k a => exact ⟨_, rfl, State.afterEraseFrame_inv hx _⟩

/-- A decoded record's command is admissible: a WRITE with another buffer length does not decode (30_encoding.md rule
R91). -/
theorem admissible_of_decodeRecord {r : CommandRecord} {i : Instr} (c : Config) (h : decodeRecord r = .ok i) :
    i.admissible c := by
  unfold decodeRecord at h
  split at h
  case h_3 =>
    split at h
    · cases h; assumption
    · cases h
  all_goals cases h
  all_goals trivial

/-- The vendor's procedure is an entry of the table, so its opcode bytes can be issued. -/
theorem State.quadProc_issuable {s : State} {v : QuadProc} (h : s.quadProc = some v) :
    v.rdOp ∈ s.cfg.issuable ∧ v.wrOp ∈ s.cfg.issuable := by
  unfold State.quadProc at h
  split at h
  · cases h
  · exact Config.vendorProc_issuable h

/-- The frame a rest state issues is admissible. -/
theorem State.admissible_of_fetchFrame {s : State} {i : Instr} (h : s.fetchFrame = some i) : i.admissible s.cfg := by
  unfold State.fetchFrame at h
  cases hf : s.q.fsm <;> rw [hf] at h
  case idle | rdWin => cases h
  case qnRd1 | qnRd2 =>
    obtain ⟨v, hv, rfl⟩ := Option.map_eq_some_iff.1 h
    exact (State.quadProc_issuable hv).1
  case qnWr =>
    obtain ⟨v, hv, rfl⟩ := Option.map_eq_some_iff.1 h
    exact (State.quadProc_issuable hv).2
  case rdXfer => cases h; unfold State.readFrameInstr; split <;> trivial
  case wrProg => cases h; unfold State.pageFrameInstr; split <;> trivial
  case bwProg => cases h; unfold State.unitFrameInstr; split <;> trivial
  case erErase => cases h; unfold State.eraseFrameInstr; split <;> trivial
  all_goals cases h; trivial

/-- The state after reset, under a configuration that meets rule R7 and in an environment whose chip is as it should be. -/
theorem State.resetWith_inv {c : Config} (e : Env) (hc : c.wf = true) (hchip : (State.resetWith c e).chipOk) :
    (State.resetWith c e).Inv := by
  refine State.inv_of trivial ⟨hc, List.length_replicate, nofun, nofun, nofun, ?_, hchip⟩
  exact ⟨nofun, List.Pairwise.nil, nofun⟩

/-- Everything a step that answers a next state can be: a reset, an idle step with nothing presented, a record taken and
run or answered `Unsupported`, a window copy, a frame (46_sequencer.md rules R277 to R279). -/
theorem step_cases {s t : State} (h : step s = .next t) :
    (s.env.resetLine = true ∧ t = s.doReset)
    ∨ (s.q.fsm = .idle ∧ s.env.port = [] ∧ t = s)
    ∨ (s.q.fsm = .idle ∧ ∃ r rest i, s.env.port = r :: rest ∧ decodeRecord r = .ok i ∧ exec i s.takeRecord = .next t)
    ∨ (s.q.fsm = .idle ∧ ∃ r, t = s.takeRecord.acceptReserved r)
    ∨ (s.q.fsm = .rdWin ∧ t = s.windowStep)
    ∨ (s.q.fsm ≠ .idle ∧ s.q.fsm ≠ .rdWin ∧ ∃ i, s.fetchFrame = some i ∧ exec i s = .next t) := by
  have hc : s.cfg.wf = true := by
    by_contra hc
    rw [step_of_bad_config (Bool.eq_false_iff.2 hc)] at h
    cases h
  cases hr : s.env.resetLine with
  | true =>
    simp only [step, hc, hr, if_true, Bool.true_eq_false, if_false, Host.Outcome.next.injEq] at h
    exact .inl ⟨rfl, h.symm⟩
  | false =>
    by_cases hf : s.q.fsm = .idle
    · rw [step_of_idle hc hr hf, stepIdle] at h
      split at h
      · rename_i hport
        cases h
        exact .inr (.inl ⟨hf, hport, rfl⟩)
      · rename_i r rest hport
        split at h
        · exact .inr (.inr (.inl ⟨hf, r, rest, _, hport, ‹_›, h⟩))
        · cases h
          exact .inr (.inr (.inr (.inl ⟨hf, r, rfl⟩)))
        · cases h
    · rcases step_busy_cases h hr hf with hw | ⟨hw, hi⟩
      · exact .inr (.inr (.inr (.inr (.inl hw))))
      · exact .inr (.inr (.inr (.inr (.inr ⟨hf, hw, hi⟩))))

/-- Taking the record off the port changes nothing the invariant mentions. -/
theorem State.takeRecord_inv {s : State} (h : s.Inv) : s.takeRecord.Inv := by
  have hr := h.restOk
  refine State.inv_of ?_ h.baseOk
  rw [s.takeRecord_q]
  cases hf : s.q.fsm <;> rw [hf] at hr <;> exact hr

theorem inv_of_exec {s t : State} {i : Instr} (h : s.Inv) (hi : i.admissible s.cfg) (ht : exec i s = .next t) : t.Inv := by
  obtain ⟨t', ht', hinv⟩ := exec_inv h hi
  cases ht.symm.trans ht'
  exact hinv

theorem State.windowStep_inv {s : State} (h : s.Inv) : s.windowStep.Inv :=
  State.endOk_inv (s := s.afterWindow.setRbuf (s.windowBytes s.q.off.toNat s.q.len.toNat)) h.baseOk _

/-- Settles O18, by the cases of a step: a reset gives the reset state; a record's command and a rest state's frame are
admissible instructions; the others end a command. -/
theorem stepKeepsInvariant : Obligations.StepKeepsInvariant := by
  intro s t h _ hstep
  rcases step_cases hstep with ⟨-, rfl⟩ | ⟨-, -, rfl⟩ | ⟨-, r, rest, i, -, hdecode, hexec⟩ | ⟨-, r, rfl⟩ | ⟨-, rfl⟩
    | ⟨-, -, i, hfetch, hexec⟩
  · exact State.resetWith_inv _ h.config h.chip
  · exact h
  · exact inv_of_exec (State.takeRecord_inv h) (admissible_of_decodeRecord _ hdecode) hexec
  · exact State.endOutside_inv (s := s.takeRecord.load r.code r.offset r.len) (st := .unsupported) h.baseOk nofun
  · exact State.windowStep_inv h
  · exact inv_of_exec h (State.admissible_of_fetchFrame hfetch) hexec

/-- Settles O17: the reset state is idle with an empty history and an unidentified device. -/
theorem resetInvariant : Obligations.ResetInvariant :=
  ⟨State.resetWith_inv _ (by decide) trivial, fun _ hc => State.resetWith_inv _ hc trivial, rfl, rfl, rfl⟩

end Sys2Proof.Machine
end

section
/-!
PROOFS. What a running command keeps (10_state.md rule R27; 46_sequencer.md rule R291), as one observation
`State.held` of the state that no operation after an exchange changes but those of IDENTIFY: so a command keeps its
operands (O11), and `dev` is written only by IDENTIFY and REPROBE (O12).
-/

namespace Sys2Proof.Machine

open Sys2Proof

/-- The operands of the running command, its buffer, the port, the configuration and the device. -/
structure Held where
  op : Byte
  off : Word64
  len : Word64
  wbuf : List Byte
  port : List CommandRecord
  cfg : Config
  dev : Dev

/-- What a running command keeps, read off the state. -/
def State.held (s : State) : Held :=
  { op := s.q.op, off := s.q.off, len := s.q.len, wbuf := s.wbuf, port := s.env.port, cfg := s.cfg, dev := s.dev }

/-! ## The operations that keep it -/

section

variable (s : State)

@[simp] theorem State.setFsm_held (f : FsmState) : (s.setFsm f).held = s.held := rfl
@[simp] theorem State.setSrOld_held (b : Byte) : (s.setSrOld b).held = s.held := rfl
@[simp] theorem State.setSrNew_held (b : Byte) : (s.setSrNew b).held = s.held := rfl
@[simp] theorem State.setReg_held (b : Byte) : (s.setReg b).held = s.held := rfl
@[simp] theorem State.setChunk_held (n : Word64) : (s.setChunk n).held = s.held := rfl
@[simp] theorem State.setErr_held (e : Status) : (s.setErr e).held = s.held := rfl
@[simp] theorem State.setCursor_held (c n : Word64) : (s.setCursor c n).held = s.held := rfl
@[simp] theorem State.advance_held (n : Word64) : (s.advance n).held = s.held := rfl
@[simp] theorem State.setCause_held (c : Cause) : (s.setCause c).held = s.held := rfl
@[simp] theorem State.setRbuf_held (rx : List Byte) : (s.setRbuf rx).held = s.held := rfl
@[simp] theorem State.setGeometry_held (a b c : Word64) : (s.setGeometry a b c).held = s.held := rfl
@[simp] theorem State.latch_held (e : Status) (fo fl : Word64) : (s.latch e fo fl).held = s.held := rfl
@[simp] theorem State.afterSample_held : s.afterSample.held = s.held := rfl
@[simp] theorem State.afterLockAnswer_held : s.afterLockAnswer.held = s.held := rfl
@[simp] theorem State.spoilRbuf_held : s.spoilRbuf.held = s.held := rfl
@[simp] theorem State.endWith_held (st : Status) (n fo fl : Word64) : (s.endWith st n fo fl).held = s.held := rfl
@[simp] theorem State.endOk_held (n : Word64) : (s.endOk n).held = s.held := rfl
@[simp] theorem State.endOutside_held (st : Status) : (s.endOutside st).held = s.held := rfl
@[simp] theorem State.endInChunk_held (st : Status) : (s.endInChunk st).held = s.held := rfl
@[simp] theorem State.transportFailed_held : s.transportFailed.held = s.held := rfl
@[simp] theorem State.endLatched_held : s.endLatched.held = s.held := rfl
@[simp] theorem State.callPoller_held (t : Nat) (l : PollLabel) : (s.callPoller t l).held = s.held := rfl
@[simp] theorem State.readFailed_held : s.readFailed.held = s.held := rfl
@[simp] theorem State.readDelivered_held (rx : List Byte) : (s.readDelivered rx).held = s.held := rfl
@[simp] theorem State.quadStatusRead_held (rx : List Byte) : (s.quadStatusRead rx).held = s.held := rfl
@[simp] theorem State.isLockedRead_held (rx : List Byte) : (s.isLockedRead rx).held = s.held := rfl

@[simp] theorem State.contPage_held : s.contPage.held = s.held := by
  simp only [State.contPage]
  split <;> simp

@[simp] theorem State.contUnit_held : s.contUnit.held = s.held := by
  simp only [State.contUnit]
  split <;> simp

@[simp] theorem State.contErase_held : s.contErase.held = s.held := by
  simp only [State.contErase]
  split <;> simp

@[simp] theorem State.cont_held : s.cont.held = s.held := by
  unfold State.cont
  split <;> simp

@[simp] theorem State.failPoll_held (e : Status) : (s.failPoll e).held = s.held := by
  unfold State.failPoll
  split <;> simp

@[simp] theorem State.decideReady_held (ready : Bool) : (s.decideReady ready).held = s.held := by
  rcases s.decideReady_cases ready with ⟨-, h⟩ | ⟨-, -, h⟩ | ⟨-, -, h⟩ <;> simp [h]

@[simp] theorem State.pollStatus_held (rx : List Byte) : (s.pollStatus rx).held = s.held := by
  simp only [State.pollStatus]
  split <;> simp

@[simp] theorem State.pollFlagStatus_held (rx : List Byte) : (s.pollFlagStatus rx).held = s.held := by
  simp [State.pollFlagStatus]

@[simp] theorem State.closeWith_held (a : Answer) : (s.closeWith a).held = s.held := by
  unfold State.closeWith
  repeat' split
  all_goals simp

@[simp] theorem State.quadFirstRead_held (v : QuadProc) (rx : List Byte) : (s.quadFirstRead v rx).held = s.held := by
  simp only [State.quadFirstRead]
  split <;> simp

@[simp] theorem State.lockRead_held (rx : List Byte) : (s.lockRead rx).held = s.held := by
  simp only [State.lockRead]
  split <;> simp

@[simp] theorem State.unlockRead_held (rx : List Byte) : (s.unlockRead rx).held = s.held := by
  simp only [State.unlockRead]
  split <;> simp

@[simp] theorem State.afterLQ_held (a : Option Bool) : (s.afterLQ a).held = s.held := by
  simp only [State.afterLQ]
  repeat' split
  all_goals simp

@[simp] theorem State.lockQueried_held (rx : List Byte) : (s.lockQueried rx).held = s.held := s.afterLQ_held _

@[simp] theorem State.lqHead_held : s.lqHead.held = s.held := by
  unfold State.lqHead
  repeat' split
  all_goals simp

/-- A row of the transition table keeps what both its columns keep. -/
theorem State.resume_held (a : Answer) (n : Nat) {f : State → State} {k : List Byte → State → State}
    (hf : ∀ u, (f u).held = u.held) (hk : ∀ rx u, (k rx u).held = u.held) : (s.resume a n f k).held = s.held :=
  State.resume_of (P := fun t => t.held = s.held) (fun c => (hf _).trans (s.setCause_held c)) (hk _ _)

theorem State.withPrecheck_held {k : State → State} (hk : (k s).held = s.held) : (s.withPrecheck k).held = s.held := by
  unfold State.withPrecheck
  split
  · simp
  · exact hk

theorem State.protectionHead_held (f : FsmState) : (s.protectionHead f).held = s.held := by
  refine s.withPrecheck_held ?_
  split <;> simp

/-! ## The frames

Each lemma speaks of the state `s` after the exchange. -/

theorem State.afterArrayRead_held (a : Answer) (n : Word64) : (s.afterArrayRead a n).held = s.held := by
  unfold State.afterArrayRead
  split
  · exact s.resume_held a _ (by simp) (by simp)
  · rfl

theorem State.afterPageProgram_held (a : Answer) : (s.afterPageProgram a).held = s.held := by
  unfold State.afterPageProgram
  split
  · exact s.resume_held a _ (by simp) (by simp)
  · rfl

theorem State.afterUnitProgram_held (a : Answer) : (s.afterUnitProgram a).held = s.held := by
  unfold State.afterUnitProgram
  split
  · exact s.resume_held a _ (by simp) (by simp)
  · rfl

theorem State.afterEraseFrame_held (a : Answer) : (s.afterEraseFrame a).held = s.held := by
  unfold State.afterEraseFrame
  split
  · exact s.resume_held a _ (by simp) (by simp)
  · rfl

end

/-! ## Identification writes the device -/

/-- From `u`, a frame's exchange done, to `t`: the command's operands stay, and, but for the step that reads the
identification, so does the device, whose flag the read-back of the negotiation may raise (41_identification.md rule R165). -/
def State.Resumes (u t : State) : Prop :=
  t.held = { u.held with dev := t.dev }
    ∧ (u.q.fsm ≠ .idRdid → t.dev = u.dev ∨ u.q.fsm = .qnRd2 ∧ t.dev = { u.dev with identified := true })

theorem State.resumes_of_held {u t : State} (h : t.held = u.held) : u.Resumes t := by
  have hdev : t.dev = u.dev := congrArg Held.dev h
  refine ⟨?_, fun _ => .inl hdev⟩
  rw [h, hdev]
  rfl

theorem State.identifyAnswered_held (s : State) (a : Answer) :
    (s.identifyAnswered a).held = { s.held with dev := (s.identifyAnswered a).dev } := by
  unfold State.identifyAnswered
  split
  · rfl
  · split
    · rfl
    · simp only [State.identifyWith]
      split
      · rfl
      · simp only [State.identifyMatched]
        split
        · split <;> rfl
        · rfl

/-- The read-back ends the command on the device as it was, or with its flag raised (45_quad_negotiator.md rule R266). -/
theorem State.quadReadBack_resumes {s : State} (hf : s.q.fsm = .qnRd2) (v : QuadProc) (rx : List Byte) :
    s.Resumes (s.quadReadBack v rx) := by
  simp only [State.quadReadBack]
  split
  · exact ⟨rfl, fun _ => .inr ⟨hf, rfl⟩⟩
  · exact State.resumes_of_held rfl

theorem execRdid_resumes (s : State) : ∃ t, execRdid s = .next t ∧ (s.exchange .rdid).2.Resumes t := by
  refine ⟨_, rfl, ?_⟩
  split
  · exact ⟨State.identifyAnswered_held _ _, fun hf => absurd ‹_› hf⟩
  · exact State.resumes_of_held rfl

theorem execRdvr_resumes (op : Byte) (s : State) :
    ∃ t, execRdvr op s = .next t ∧ (s.exchange (.rdvr op)).2.Resumes t := by
  refine ⟨_, rfl, ?_⟩
  generalize s.exchange (.rdvr op) = p
  obtain ⟨a, u⟩ := p
  dsimp only
  split
  · exact State.resumes_of_held (u.resume_held a _ (by simp) (by simp))
  · rename_i hf
    exact State.resume_of (P := u.Resumes) (fun _ => State.resumes_of_held rfl) (State.quadReadBack_resumes hf _ _)
  · exact State.resumes_of_held rfl

section

variable (s : State)

theorem execRdsr_held : ∃ t, execRdsr s = .next t ∧ t.held = (s.exchange .rdsr).2.held := by
  refine ⟨_, rfl, ?_⟩
  split
  case h_7 => rfl
  all_goals exact State.resume_held _ _ _ (by simp) (by simp)

theorem execWrsr_held (p : List Byte) : ∃ t, execWrsr p s = .next t ∧ t.held = (s.exchange (.wrsr p)).2.held := by
  refine ⟨_, rfl, ?_⟩
  split
  case h_3 => rfl
  all_goals exact State.resume_held _ _ _ (by simp) (by simp)

theorem execRdfsr_held : ∃ t, execRdfsr s = .next t ∧ t.held = (s.exchange .rdfsr).2.held := by
  refine ⟨_, rfl, ?_⟩
  split
  · exact State.resume_held _ _ _ (by simp) (by simp)
  · rfl

theorem execWren_held : ∃ t, execWren s = .next t ∧ t.held = (s.exchange .wren).2.held := by
  refine ⟨_, rfl, ?_⟩
  split
  case h_7 => rfl
  all_goals exact State.resume_held _ _ _ (by simp) (by simp)

theorem execWrdi_held : ∃ t, execWrdi s = .next t ∧ t.held = (s.exchange .wrdi).2.held := by
  refine ⟨_, rfl, ?_⟩
  split
  case h_3 => rfl
  all_goals exact State.closeWith_held _ _

theorem execWrvr_held (op : Byte) (p : List Byte) :
    ∃ t, execWrvr op p s = .next t ∧ t.held = (s.exchange (.wrvr op p)).2.held := by
  refine ⟨_, rfl, ?_⟩
  split
  · exact State.resume_held _ _ _ (by simp) (by simp)
  · rfl

end

/-- What a frame does after its exchange, in any rest state. -/
theorem exec_resumes {s t : State} {i : Instr} (hi : i.isHost = false) (ht : exec i s = .next t) :
    (s.exchange i).2.Resumes t := by
  have of_held : (∃ u, exec i s = .next u ∧ u.held = (s.exchange i).2.held) → (s.exchange i).2.Resumes t := by
    rintro ⟨u, hu, hheld⟩
    cases ht.symm.trans hu
    exact State.resumes_of_held hheld
  have of_resumes : (∃ u, exec i s = .next u ∧ (s.exchange i).2.Resumes u) → (s.exchange i).2.Resumes t := by
    rintro ⟨u, hu, h⟩
    cases ht.symm.trans hu
    exact h
  cases i with
  | identify | read | write | erase | lock | unlock | geometry | reprobe | isLocked => cases hi
  | rdid => exact of_resumes (execRdid_resumes s)
  | rdsr => exact of_held (execRdsr_held s)
  | wrsr p => exact of_held (execWrsr_held s p)
  | rdfsr => exact of_held (execRdfsr_held s)
  | wren => exact of_held (execWren_held s)
  | wrdi => exact of_held (execWrdi_held s)
  | rdvr op => exact of_resumes (execRdvr_resumes op s)
  | wrvr op p => exact of_held (execWrvr_held s op p)
  | readFrame a n | readFast a n | readDual a n | readQuad a n | readQuadIo a n =>
    exact of_held ⟨_, rfl, State.afterArrayRead_held _ _ _⟩
  | pp a d | ppQuad a d => exact of_held ⟨_, rfl, State.afterPageProgram_held _ _⟩
  | bp a d | aaiWp a d => exact of_held ⟨_, rfl, State.afterUnitProgram_held _ _⟩
  | se a | be4k a => exact of_held ⟨_, rfl, State.afterEraseFrame_held _ _⟩

/-- An exchange changes of all this only the frame buffer (10_state.md rule R36). -/
theorem State.exchange_held (s : State) (i : Instr) :
    (s.exchange i).2.held = { s.held with dev := { s.dev with cmdbuf := (s.exchange i).2.dev.cmdbuf } } := by
  have hport := s.exchange_env_port i
  rw [s.exchange_frame i] at hport ⊢
  simp only [State.held]
  rw [hport]

/-- The busy step: the operands stay, and the device but for its frame buffer and the flag that the negotiation's end may
raise. -/
theorem step_busy_held {s t : State} (h : step s = .next t) (hr : s.env.resetLine = false) (hf : s.q.fsm ≠ .idle) :
    t.held = { s.held with dev := t.dev }
      ∧ (s.q.fsm ≠ .idRdid → t.dev = { s.dev with cmdbuf := t.dev.cmdbuf }
          ∨ s.q.fsm = .qnRd2 ∧ t.dev = { s.dev with identified := true, cmdbuf := t.dev.cmdbuf }) := by
  rcases step_busy_cases h hr hf with ⟨-, rfl⟩ | ⟨-, i, hfetch, hexec⟩
  · exact ⟨rfl, fun _ => .inl rfl⟩
  · obtain ⟨hheld, hdev⟩ := exec_resumes (State.isHost_of_fetchFrame hfetch) hexec
    have hsent : (s.exchange i).2.dev = { s.dev with cmdbuf := (s.exchange i).2.dev.cmdbuf } :=
      congrArg Held.dev (s.exchange_held i)
    rw [s.exchange_q] at hdev
    refine ⟨by rw [hheld, s.exchange_held i], fun hid => (hdev hid).imp (fun hsame => ?_) fun ⟨hq, hraised⟩ => ⟨hq, ?_⟩⟩
    · rw [hsame]; exact hsent
    · rw [hraised, hsent]

/-! ## Instructions out of place -/

/-- A command presented while one runs has no effect (93_implementation_defined.md U16). -/
theorem State.whenIdle_of_busy {s : State} (hf : s.q.fsm ≠ .idle) (k : State → State) : s.whenIdle k = s := if_neg hf

theorem exec_host_of_busy {s : State} {i : Instr} (hi : i.isHost = true) (hf : s.q.fsm ≠ .idle) :
    exec i s = .next s := by
  cases i with
  | identify | read | write | erase | lock | unlock | geometry | reprobe | isLocked =>
    exact congrArg Host.Outcome.next (State.whenIdle_of_busy hf _)
  | _ => cases hi

/-- A frame where no frame is issued is its exchange and nothing else (log entry 9). -/
theorem exec_frame_of_no_caller {s : State} {i : Instr} (hi : i.isHost = false)
    (hf : s.q.fsm = .idle ∨ s.q.fsm = .rdWin) : exec i s = .next (s.sent i) := by
  cases i with
  | identify | read | write | erase | lock | unlock | geometry | reprobe | isLocked => cases hi
  | _ =>
    rcases hf with hf | hf <;>
      simp [exec, State.sent, hf, execRdid, execRdsr, execWrsr, execRdfsr, execWren, execWrdi, execRdvr, execWrvr,
        execReadFrame, execReadFast, execReadDual, execReadQuad, execReadQuadIo, State.afterArrayRead, execPp, execPpQuad,
        State.afterPageProgram, execBp, execAaiWp, State.afterUnitProgram, execSe, execBe4k, State.afterEraseFrame]

/-- Settles O11: the operands are part of what a busy step holds; the instructions out of place are the two lemmas above. -/
theorem busyKeepsCommand : Obligations.BusyKeepsCommand := by
  refine ⟨fun s t h hr hf => ?_, fun s i => exec_host_of_busy, fun s i => exec_frame_of_no_caller⟩
  obtain ⟨hheld, -⟩ := step_busy_held h hr hf
  exact ⟨congrArg Held.op hheld, congrArg Held.off hheld, congrArg Held.len hheld, congrArg Held.wbuf hheld,
    congrArg Held.port hheld, congrArg Held.cfg hheld⟩

/-! ## Who writes the device -/

/-- A command taken in `S_IDLE` leaves the device, but for REPROBE, which forgets it (41_identification.md rule R170). -/
theorem exec_host_dev {s t : State} {i : Instr} (hi : i.isHost = true) (hf : s.q.fsm = .idle) (ht : exec i s = .next t) :
    t.dev = s.dev
      ∨ (∃ off len, i = .reprobe off len) ∧ t.dev = { s.dev with identified := false, window := false } := by
  have of_held : ∀ {k : State → State} {u : State}, u.dev = s.dev → (k s).held = u.held →
      exec i s = .next (s.whenIdle k) → t.dev = s.dev := by
    intro k u hu hk hexec
    cases ht.symm.trans hexec
    rw [State.whenIdle, if_pos hf, ← hu]
    exact congrArg Held.dev hk
  cases i with
  | reprobe off len =>
    refine .inr ⟨⟨off, len, rfl⟩, ?_⟩
    simp only [exec, execReprobe, State.whenIdle, hf, if_true, Host.Outcome.next.injEq] at ht
    rw [← ht]
    rfl
  | identify off len => exact .inl (of_held (u := s.load 0x01 off len) rfl (by dsimp only; split <;> simp) rfl)
  | read off len =>
    exact .inl (of_held (u := s.load 0x02 off len) rfl (by dsimp only; split <;> simp) rfl)
  | write off len wbuf =>
    exact .inl (of_held (u := (s.load 0x03 off len).holdBuffer wbuf) rfl (State.withPrecheck_held _ (by simp)) rfl)
  | erase off len =>
    exact .inl (of_held (u := s.load 0x04 off len) rfl (State.withPrecheck_held _ (by split <;> simp)) rfl)
  | lock off len => exact .inl (of_held (u := s.load 0x05 off len) rfl (State.protectionHead_held _ _) rfl)
  | unlock off len => exact .inl (of_held (u := s.load 0x06 off len) rfl (State.protectionHead_held _ _) rfl)
  | geometry off len => exact .inl (of_held (u := s.load 0x07 off len) rfl (by dsimp only; split <;> simp) rfl)
  | isLocked off len => exact .inl (of_held (u := s.load 0x09 off len) rfl (State.protectionHead_held _ _) rfl)
  | _ => cases hi

/-- Only the code 0x08 names REPROBE (30_encoding.md rule R92). -/
theorem code_of_decodeRecord_reprobe {r : CommandRecord} {off len : Word64} (h : decodeRecord r = .ok (.reprobe off len)) :
    r.code = 0x08 := by
  unfold decodeRecord at h
  split at h
  case h_8 => assumption
  case h_3 => split at h <;> cases h
  all_goals cases h

/-- The step of `S_IDLE` leaves the device, but for a REPROBE's. -/
theorem step_idle_dev {s t : State} (h : step s = .next t) (hr : s.env.resetLine = false) (hf : s.q.fsm = .idle) :
    t.dev = s.dev
      ∨ (∃ r rest, s.env.port = r :: rest ∧ r.code = 0x08)
        ∧ t.dev = { s.dev with identified := false, window := false } := by
  rcases step_cases h with ⟨hreset, -⟩ | ⟨-, -, rfl⟩ | ⟨-, r, rest, i, hport, hdecode, hexec⟩ | ⟨-, r, rfl⟩ | ⟨hw, -⟩
    | ⟨hbusy, -⟩
  · exact absurd (hreset.symm.trans hr) nofun
  · exact .inl rfl
  · rcases exec_host_dev (s := s.takeRecord) (isHost_of_decodeRecord hdecode) hf hexec with hsame | ⟨⟨off, len, rfl⟩, hdev⟩
    · exact .inl hsame
    · exact .inr ⟨⟨r, rest, hport, code_of_decodeRecord_reprobe hdecode⟩, hdev⟩
  · exact .inl rfl
  · exact absurd (hw.symm.trans hf) nofun
  · exact absurd hf hbusy

/-- What a step without a reset can do to the device: read the identification, build a frame, raise the flag at the end
of a negotiation, forget the device at a REPROBE (10_state.md rules R24, R30, R36). -/
theorem step_dev_cases {s t : State} (h : step s = .next t) (hr : s.env.resetLine = false) :
    s.q.fsm = .idRdid
      ∨ t.dev = { s.dev with cmdbuf := t.dev.cmdbuf }
      ∨ (s.q.fsm = .qnRd2 ∧ t.dev = { s.dev with identified := true, cmdbuf := t.dev.cmdbuf })
      ∨ ((∃ r rest, s.q.fsm = .idle ∧ s.env.port = r :: rest ∧ r.code = 0x08)
          ∧ t.dev = { s.dev with identified := false, window := false }) := by
  by_cases hf : s.q.fsm = .idle
  · rcases step_idle_dev h hr hf with hdev | ⟨⟨r, rest, hport, hcode⟩, hdev⟩
    · exact .inr (.inl (by rw [hdev]))
    · exact .inr (.inr (.inr ⟨⟨r, rest, hf, hport, hcode⟩, hdev⟩))
  · by_cases hid : s.q.fsm = .idRdid
    · exact .inl hid
    · exact .inr (((step_busy_held h hr hf).2 hid).imp_right .inl)

/-- Settles O12, by what a step can do to the device. -/
theorem deviceWrittenByIdentification : Obligations.DeviceWrittenByIdentification := by
  intro s t h hr
  rcases step_dev_cases h hr with hid | hdev | ⟨hq, hdev⟩ | ⟨hreprobe, hdev⟩
  · exact ⟨fun hne => absurd hid hne, fun _ _ => .inl hid, fun hne => absurd hid hne⟩
  all_goals rw [hdev]
  · refine ⟨fun _ => rfl, fun h0 h1 => absurd (h0.symm.trans h1) nofun, fun _ hchange => ?_⟩
    rcases hchange with ⟨h1, h0⟩ | hwindow
    · exact absurd (h0.symm.trans h1) nofun
    · exact absurd rfl hwindow
  · refine ⟨fun _ => rfl, fun _ _ => .inr hq, fun _ hchange => ?_⟩
    rcases hchange with ⟨-, h0⟩ | hwindow
    · exact absurd h0 nofun
    · exact absurd rfl hwindow
  · exact ⟨fun _ => rfl, fun _ h1 => absurd h1 nofun, fun _ _ => hreprobe⟩

end Sys2Proof.Machine
end

section
/-!
SUPPORT. What one exchange does, by what stands behind the transport (20_memory.md rules R62 to R64): the environment
moves on and the answer comes from the oracle's list, or from the chip `WB`.
-/

namespace Sys2Proof.Machine

open Sys2Proof

section

variable {s : State} {i : Instr} {x : Xfer}

/-- Of the environment an exchange moves the transport, the list of answers and the count of exchanges. -/
theorem State.envAfter_frame (s : State) (i : Instr) :
    s.envAfter i = { s.env with transport := (s.envAfter i).transport, answers := (s.envAfter i).answers,
                                nXfer := s.env.nXfer + 1 } := by
  unfold State.envAfter
  repeat' split
  all_goals rfl

theorem State.envAfter_oracle (h : s.env.transport = .oracle) :
    s.envAfter i = { s.env with answers := s.env.answers.tail, nXfer := s.env.nXfer + 1 } := by
  simp only [State.envAfter, h]

/-- The oracle answers with the next of the list, cut to the bytes asked for (log entries 2, 13). -/
theorem State.answerTo_oracle (h : s.env.transport = .oracle) {a : Answer} {rest : List Answer}
    (ha : s.env.answers = a :: rest) : s.answerTo i x = clipAnswer x.rxn a := by
  simp only [State.answerTo, State.chipAnswer, h, State.oracleAnswer, ha, Option.getD_none]

variable {ch : Chip} {a : Answer}

/-- A frame the chip answers, it also runs. -/
theorem State.exchange_chip (h : s.env.transport = .wellBehaved ch) (hx : encodeFrame s.cfg s.geom i = some x)
    (ha : ch.answer s.cfg i = some a) : (s.exchange i).2.env.transport = .wellBehaved (ch.after s.cfg i) := by
  simp only [State.exchange_of_frame hx, State.transfer_env, State.envAfter, h, ha]

/-- The chip's answer, cut to the bytes asked for. -/
theorem State.exchange_chip_answer (h : s.env.transport = .wellBehaved ch) (hx : encodeFrame s.cfg s.geom i = some x)
    (ha : ch.answer s.cfg i = some a) : (s.exchange i).1 = clipAnswer x.rxn a := by
  simp only [State.exchange_of_frame hx, State.transfer_answer, State.answerTo, State.chipAnswer, h, ha,
    Option.getD_some]

end

end Sys2Proof.Machine
end

section
/-!
PROOFS. What one exchange changes (O9), and that every frame a run issues is well-formed (O21).
-/

namespace Sys2Proof.Machine

open Sys2Proof

/-- Settles O9: an exchange of a frame is its transfer, whose fields the laws of the exchange name. -/
theorem exchangeEffect : Obligations.ExchangeEffect := by
  intro s i x hx
  simp only [State.sent, State.reply, State.exchange_of_frame hx]
  refine ⟨rfl, s.envAfter_frame i, s.answerTo_length i x, fun h =>
    ⟨?_, fun a rest ha => ⟨State.answerTo_oracle h ha, ?_⟩⟩⟩
  · rw [State.transfer_env, State.envAfter_oracle h, h]
  · rw [State.transfer_env, State.envAfter_oracle h, ha, List.tail_cons]

/-! ## The operands of the frames issued -/

/-- An address of a checked range fits the address bytes of a frame (20_memory.md rule R61). -/
theorem State.addrFits_of_rangeOk {s : State} (h : s.Inv) (hr : s.rangeOk) {a : Word64}
    (ha : a.toNat < s.q.off.toNat + s.q.len.toNat) : addrFits s.geom a = true := by
  have hcap := State.capacity_le_addresses h.config (State.devDerived_of_rangeOk h.baseOk hr)
  obtain ⟨-, -, hrange⟩ := hr
  exact decide_eq_true (Nat.lt_of_lt_of_le ha (hrange.trans hcap))

/-- The cursor of a loop with a chunk or unit in flight is an address of the command's range. -/
theorem State.cur_lt_of_cursorOk {s : State} (h : s.cursorOk) : s.q.cur.toNat < s.q.off.toNat + s.q.len.toNat := by
  obtain ⟨hcur, hpos, hpart⟩ := h
  omega

/-- The buffer of a WRITE holds the whole chunk in flight (30_encoding.md rule R91). -/
theorem State.chunkData_length {s : State} (hbuf : s.wbuf.length = s.q.len.toNat) (h : s.cursorOk) :
    s.chunkData.length = s.q.chunk.toNat := by
  obtain ⟨-, -, hpart⟩ := h
  simp only [State.chunkData, List.length_take, List.length_drop]
  omega

/-- A payload as long as a 64-bit register says, and not empty (20_memory.md rule R75). -/
theorem payloadFits_of_length {data : List Byte} {n : Word64} (h : data.length = n.toNat) (hn : 1 ≤ n.toNat) :
    payloadFits data = true := by
  have hlt := n.isLt
  simp only [payloadFits, Bool.and_eq_true, decide_eq_true_eq]
  omega

/-- The write of a negotiation carries one byte or two (45_quad_negotiator.md rule R264). -/
theorem State.registerPayload_quadPayload (s : State) (v : QuadProc) : registerPayload (s.quadPayload v) = true := by
  unfold State.quadPayload
  split <;> rfl

section

variable {s : State} (h : s.Inv) (hr : s.rangeOk)

include h hr

theorem State.readFrameInstr_wf : s.readFrameInstr.wf s.geom = true := by
  obtain ⟨-, hlen, -⟩ := id hr
  have haddr : addrFits s.geom s.q.off = true := State.addrFits_of_rangeOk h hr (by omega)
  have hne : (s.q.len != 0) = true := bne_iff_ne.2 fun h0 => by simp [h0] at hlen
  have hwf : (addrFits s.geom s.q.off && s.q.len != 0) = true := Bool.and_eq_true_iff.2 ⟨haddr, hne⟩
  unfold State.readFrameInstr
  split <;> exact hwf

theorem State.pageFrameInstr_wf (hl : s.pageLoopOk) : s.pageFrameInstr.wf s.geom = true := by
  obtain ⟨⟨-, -, hbuf⟩, hcursor, -⟩ := hl
  obtain ⟨-, hpos, -⟩ := id hcursor
  have hwf : (addrFits s.geom s.q.cur && payloadFits s.chunkData) = true := Bool.and_eq_true_iff.2
    ⟨State.addrFits_of_rangeOk h hr (State.cur_lt_of_cursorOk hcursor),
      payloadFits_of_length (State.chunkData_length hbuf hcursor) hpos⟩
  unfold State.pageFrameInstr
  split <;> exact hwf

/-- BP for a unit of one byte, AAI_WP for a unit of two, and there is no other (43_program_erase_read.md rule R203). -/
theorem State.unitFrameInstr_wf (hl : s.unitLoopOk) : s.unitFrameInstr.wf s.geom = true := by
  obtain ⟨⟨-, -, hbuf⟩, hcursor, -, hchunk⟩ := hl
  have haddr := State.addrFits_of_rangeOk h hr (State.cur_lt_of_cursorOk hcursor)
  have hlen := State.chunkData_length hbuf hcursor
  obtain ⟨-, hpos, hpart⟩ := hcursor
  obtain ⟨hone, -⟩ := s.unitChunk_spec (by omega)
  rw [← hchunk] at hone
  unfold State.unitFrameInstr
  split
  · rename_i h1
    rw [h1] at hlen
    exact Bool.and_eq_true_iff.2 ⟨haddr, beq_iff_eq.2 hlen⟩
  · rename_i h1
    rw [hone.resolve_left h1] at hlen
    exact Bool.and_eq_true_iff.2 ⟨haddr, beq_iff_eq.2 hlen⟩

theorem State.eraseFrameInstr_wf (hl : s.eraseLoopOk) : s.eraseFrameInstr.wf s.geom = true := by
  obtain ⟨-, hcursor, -⟩ := hl
  have haddr := State.addrFits_of_rangeOk h hr (State.cur_lt_of_cursorOk hcursor)
  unfold State.eraseFrameInstr
  split <;> exact haddr

end

/-- Settles O21, by the rest state that issues the frame: the array frames have their operands from a checked range and,
in a loop, from its cursor; the register writes carry one byte or two. -/
theorem issuedFramesWellFormed : Obligations.IssuedFramesWellFormed := by
  intro s i h hfetch
  have hr := h.restOk
  unfold State.fetchFrame at hfetch
  cases hf : s.q.fsm <;> rw [hf] at hfetch hr
  case idle | rdWin => cases hfetch
  case qnRd1 | qnRd2 =>
    obtain ⟨v, -, rfl⟩ := Option.map_eq_some_iff.1 hfetch
    rfl
  case qnWr =>
    obtain ⟨v, -, rfl⟩ := Option.map_eq_some_iff.1 hfetch
    exact s.registerPayload_quadPayload v
  case rdXfer => cases hfetch; exact State.readFrameInstr_wf h hr.1
  case wrProg => cases hfetch; exact State.pageFrameInstr_wf h hr.1 hr.2
  case bwProg => cases hfetch; exact State.unitFrameInstr_wf h hr.1 hr.2
  case erErase => cases hfetch; exact State.eraseFrameInstr_wf h hr.1 hr.2
  all_goals cases hfetch; rfl

end Sys2Proof.Machine
end

section
/-!
SUPPORT. Runs that reach a state with a property, and what the chip `WB` holds while a WRITE programs it chunk by chunk
(95_test_vectors.md section 5).
-/

namespace Sys2Proof.Machine

open Sys2Proof

/-! ## Runs -/

/-- Some number of steps from `s` ends in a state with the property `P`. -/
def State.Reaches (s : State) (P : State → Prop) : Prop := ∃ n t, Host.Core.run core n s = .next t ∧ P t

theorem State.reaches_self {P : State → Prop} {s : State} (h : P s) : s.Reaches P := ⟨0, s, rfl, h⟩

theorem State.Reaches.of_step {P : State → Prop} {s t : State} (hstep : step s = .next t) (h : t.Reaches P) :
    s.Reaches P := by
  obtain ⟨n, u, hrun, hu⟩ := h
  have hcore : core.step s = .next t := hstep
  exact ⟨n + 1, u, by simp only [Host.Core.run, hcore, hrun], hu⟩

theorem State.Reaches.trans {P Q : State → Prop} {s : State} (h : s.Reaches P) (hQ : ∀ t, P t → t.Reaches Q) :
    s.Reaches Q := by
  obtain ⟨n, t, hrun, ht⟩ := h
  induction n generalizing s with
  | zero =>
    cases hrun
    exact hQ _ ht
  | succ n ih =>
    simp only [Host.Core.run] at hrun
    split at hrun
    · rename_i u hstep
      exact .of_step hstep (ih hrun)
    · cases hrun
    · cases hrun

/-- The step of a rest state that issues a frame is the frame's meaning (46_sequencer.md rule R277). -/
theorem step_of_frame {s : State} {i : Instr} (hc : s.cfg.wf = true) (hr : s.env.resetLine = false)
    (hi : s.fetchFrame = some i) : step s = exec i s := by
  have hidle : s.q.fsm ≠ .idle := fun hf => by simp [State.fetchFrame, hf] at hi
  have hwin : s.q.fsm ≠ .rdWin := fun hf => by simp [State.fetchFrame, hf] at hi
  simp [step, hc, hr, hidle, stepBusy, hwin, hi]

/-! ## The chip while it is programmed -/

/-- No page frame moves the protected suffix. -/
theorem Chip.programArray_limit (ch : Chip) (c : Config) (a : Word64) (data : List Byte) :
    (ch.programArray c a data).limit c = ch.limit c := by
  unfold Chip.programArray
  split <;> rfl

/-- `ch` is `base` with the first `n` bytes of `buf` programmed from `off` on, in its array; its status register is the
same. -/
def Chip.HasProgrammed (base ch : Chip) (off n : Nat) (buf : List Byte) : Prop :=
  ch.sr = base.sr ∧ ∀ a, ch.mem.read a =
    if off ≤ a ∧ a < off + n then base.mem.read a &&& buf.getD (a - off) 0 else base.mem.read a

theorem Chip.hasProgrammed_zero (ch : Chip) (off : Nat) (buf : List Byte) : ch.HasProgrammed ch off 0 buf :=
  ⟨rfl, fun a => (if_neg (by omega)).symm⟩

/-- The write-enable and the page frame of the next `k` bytes, all below the protected suffix (43_program_erase_read.md
rule R197). -/
theorem Chip.HasProgrammed.chunk {base ch : Chip} {off n : Nat} {buf : List Byte} (h : base.HasProgrammed ch off n buf)
    (hmem : ch.mem.wf) (c : Config) {a : Word64} {k : Nat} (ha : a.toNat = off + n) (hk : n + k ≤ buf.length)
    (hlimit : off + n + k ≤ ch.limit c) :
    base.HasProgrammed ((ch.after c .wren).programArray c a ((buf.drop n).take k)) off (n + k) buf := by
  obtain ⟨hsr, hread⟩ := h
  refine ⟨hsr, fun x => ?_⟩
  have hlen : ((buf.drop n).take k).length = k := by
    rw [List.length_take, List.length_drop]
    omega
  calc ((ch.after c .wren).programArray c a ((buf.drop n).take k)).mem.read x
      = (ch.mem.program (ch.limit c) a.toNat ((buf.drop n).take k)).read x := rfl
    _ = if off + n ≤ x ∧ x < off + n + k ∧ x < ch.limit c
          then ch.mem.read x &&& ((buf.drop n).take k).getD (x - (off + n)) 0 else ch.mem.read x := by
        rw [Memory.read_program hmem, hlen, ha]
    _ = _ := ?_
  rw [hread x]
  by_cases hnew : off + n ≤ x ∧ x < off + n + k
  · have hbyte : ((buf.drop n).take k).getD (x - (off + n)) 0 = buf.getD (x - off) 0 := by
      simp only [List.getD_eq_getElem?_getD, List.getElem?_take, List.getElem?_drop]
      rw [if_pos (by omega), show n + (x - (off + n)) = x - off by omega]
    rw [if_pos (by omega), if_neg (by omega), if_pos (by omega), hbyte]
  · rw [if_neg (by omega)]
    by_cases hold : off ≤ x ∧ x < off + n
    · rw [if_pos hold, if_pos (by omega)]
    · rw [if_neg hold, if_neg (by omega)]

end Sys2Proof.Machine
end

section
/-!
PROOFS. A page-mode WRITE behind the chip `WB` (O59): the acceptance and the lock query bring it to its first chunk, each
chunk is a write-enable, a page frame and one successful poll, and what is left to write gets less with each.
-/

namespace Sys2Proof.Machine

open Sys2Proof

/-- A command runs behind the chip `ch`, its range below the protected suffix, under the default masks. -/
structure State.WritesBelow (s : State) (ch : Chip) : Prop where
  inv : s.Inv
  noReset : s.env.resetLine = false
  wip : s.cfg.srWip = 0x01
  flag : s.cfg.fsrReady = 0x80
  chip : s.env.transport = .wellBehaved ch
  below : s.q.off.toNat + s.q.len.toNat ≤ ch.limit s.cfg

/-- The registers of the page loop, and its buffer. -/
structure PageRegs where
  off : Word64
  len : Word64
  cur : Word64
  doneBytes : Word64
  chunk : Word64
  wbuf : List Byte

/-- The page loop's registers, read off the state. -/
def State.pageRegs (s : State) : PageRegs :=
  { off := s.q.off, len := s.q.len, cur := s.q.cur, doneBytes := s.q.doneBytes, chunk := s.q.chunk, wbuf := s.wbuf }

@[simp] theorem State.setFsm_pageRegs (s : State) (f : FsmState) : (s.setFsm f).pageRegs = s.pageRegs := rfl
@[simp] theorem State.setSrOld_pageRegs (s : State) (b : Byte) : (s.setSrOld b).pageRegs = s.pageRegs := rfl
@[simp] theorem State.setReg_pageRegs (s : State) (b : Byte) : (s.setReg b).pageRegs = s.pageRegs := rfl
@[simp] theorem State.callPoller_pageRegs (s : State) (t : Nat) (l : PollLabel) :
    (s.callPoller t l).pageRegs = s.pageRegs := rfl
@[simp] theorem State.exchange_pageRegs (s : State) (i : Instr) : (s.exchange i).2.pageRegs = s.pageRegs := by
  simp [State.pageRegs]

/-- The chunk of the registers `r` is counted: the loop is at its next chunk, or the command has ended with success
(46_sequencer.md rule R284). -/
structure State.Counted (r : PageRegs) (t : State) : Prop where
  off : t.q.off = r.off
  len : t.q.len = r.len
  wbuf : t.wbuf = r.wbuf
  doneBytes : t.q.doneBytes = r.doneBytes + r.chunk
  next : t.q.doneBytes.toNat < t.q.len.toNat ∧ t.q.fsm = .wrWren
    ∨ t.q.len.toNat ≤ t.q.doneBytes.toNat ∧ t.q.fsm = .idle ∧ t.rsp.status = .ok ∧ t.rsp.count = t.q.doneBytes

/-! ## The poller's return -/

theorem State.contPage_counted (s : State) : s.contPage.Counted s.pageRegs := by
  simp only [State.contPage]
  split
  · exact ⟨rfl, rfl, rfl, rfl, .inl ⟨‹_›, rfl⟩⟩
  · rename_i hend
    exact ⟨rfl, rfl, rfl, rfl, .inr ⟨Nat.not_lt.1 hend, rfl, rfl, rfl⟩⟩

theorem State.contPage_env (s : State) : s.contPage.env = s.env := by
  simp only [State.contPage]
  split <;> rfl

/-- A poll that finds the device ready returns into the page loop (46_sequencer.md rule R288). -/
theorem State.decideReady_page {s : State} (hret : s.q.ret = .wrPoll) : s.decideReady true = s.contPage := by
  simp only [State.decideReady, if_true, State.cont, hret]

/-- `WB` is never busy: bit 0 of its status register is 0 (95_test_vectors.md section 5). -/
theorem State.WritesBelow.status_ready {s : State} {ch : Chip} (h : s.WritesBelow ch) : srReady s.cfg ch.sr = true := by
  obtain ⟨-, hsr⟩ := (State.chipOk_iff s).1 h.inv.chip ch h.chip
  have hbit : ch.sr &&& 0x01 = 0 := by
    rw [show (0x01 : Byte) = 0x03 &&& 0x01 by decide, ← BitVec.and_assoc, hsr]
    rfl
  simpa [srReady, h.wip] using hbit

/-- The flag status register `WB` answers indicates ready. -/
theorem State.WritesBelow.flag_ready {s : State} {ch : Chip} (h : s.WritesBelow ch) :
    fsrIsReady s.cfg 0x80#8 = true := by
  simp [fsrIsReady, h.flag]

/-! ## The page frame, PP or PP_QUAD -/

theorem State.encodeFrame_pageFrameInstr (s : State) : ∃ x, encodeFrame s.cfg s.geom s.pageFrameInstr = some x := by
  unfold State.pageFrameInstr
  split <;> exact ⟨_, rfl⟩

theorem Chip.answer_pageFrameInstr (ch : Chip) (c : Config) (s : State) :
    ch.answer c s.pageFrameInstr = some (.ok []) := by
  unfold State.pageFrameInstr
  split <;> rfl

theorem Chip.after_pageFrameInstr (ch : Chip) (c : Config) (s : State) :
    ch.after c s.pageFrameInstr = ch.programArray c s.q.cur s.chunkData := by
  unfold State.pageFrameInstr
  split <;> rfl

theorem exec_pageFrameInstr (s : State) :
    exec s.pageFrameInstr s
      = .next ((s.exchange s.pageFrameInstr).2.afterPageProgram (s.exchange s.pageFrameInstr).1) := by
  unfold State.pageFrameInstr
  split <;> rfl

/-! ## The steps of a chunk -/

/-- A frame that the chip answers, and whose step ends in `t`. -/
theorem State.WritesBelow.of_frame {s t : State} {ch : Chip} {i : Instr} {x : Xfer} {a : Answer} (h : s.WritesBelow ch)
    (hi : s.fetchFrame = some i) (hx : encodeFrame s.cfg s.geom i = some x) (ha : ch.answer s.cfg i = some a)
    (hlimit : (ch.after s.cfg i).limit s.cfg = ch.limit s.cfg) (hexec : exec i s = .next t)
    (hreset : t.env.resetLine = (s.exchange i).2.env.resetLine)
    (htransport : t.env.transport = (s.exchange i).2.env.transport) :
    step s = .next t ∧ t.WritesBelow (ch.after s.cfg i) := by
  have hstep : step s = .next t := (step_of_frame h.inv.config h.noReset hi).trans hexec
  have hbusy : s.q.fsm ≠ .idle := fun hf => by simp [State.fetchFrame, hf] at hi
  obtain ⟨-, hoff, hlen, -, -, hcfg⟩ := busyKeepsCommand.1 s t hstep h.noReset hbusy
  refine ⟨hstep, inv_of_exec h.inv (State.admissible_of_fetchFrame hi) hexec, ?_, ?_, ?_, ?_, ?_⟩
  · rw [hreset, s.exchange_env_resetLine, h.noReset]
  · rw [hcfg, h.wip]
  · rw [hcfg, h.flag]
  · rw [htransport, State.exchange_chip h.chip hx ha]
  · rw [hoff, hlen, hcfg, hlimit]
    exact h.below

section

variable {s : State} {ch : Chip} (h : s.WritesBelow ch)

include h

/-- `S_WR_WREN` (46_sequencer.md rule R284). -/
theorem State.WritesBelow.step_wren (hf : s.q.fsm = .wrWren) :
    ∃ t, step s = .next t ∧ t.WritesBelow (ch.after s.cfg .wren) ∧ t.pageRegs = s.pageRegs ∧ t.q.fsm = .wrProg := by
  have ha : (s.exchange .wren).1 = .ok [] := (State.exchange_chip_answer h.chip rfl rfl).trans rfl
  have hexec : exec .wren s = .next ((s.exchange .wren).2.setFsm .wrProg) := by
    simp [exec, execWren, hf, State.resume, ha]
  obtain ⟨hstep, hbelow⟩ := h.of_frame (by simp [State.fetchFrame, hf]) rfl rfl rfl hexec rfl rfl
  exact ⟨_, hstep, hbelow, by simp, rfl⟩

/-- `S_WR_PROG` (46_sequencer.md rule R284). -/
theorem State.WritesBelow.step_program (hf : s.q.fsm = .wrProg) :
    ∃ t, step s = .next t ∧ t.WritesBelow (ch.programArray s.cfg s.q.cur s.chunkData) ∧ t.pageRegs = s.pageRegs
      ∧ t.q.fsm = .plRdsr ∧ t.q.ret = .wrPoll := by
  obtain ⟨x, hx⟩ := s.encodeFrame_pageFrameInstr
  have ha := ch.answer_pageFrameInstr s.cfg s
  have hafter := ch.after_pageFrameInstr s.cfg s
  have hok : (s.exchange s.pageFrameInstr).1 = .ok [] := by
    rw [State.exchange_chip_answer h.chip hx ha, clipAnswer, List.take_nil]
  have hexec : exec s.pageFrameInstr s = .next ((s.exchange s.pageFrameInstr).2.callPoller s.cfg.tProg .wrPoll) := by
    simp [exec_pageFrameInstr, State.afterPageProgram, hf, State.resume, hok]
  obtain ⟨hstep, hbelow⟩ := h.of_frame (by simp [State.fetchFrame, hf]) hx ha (by rw [hafter, ch.programArray_limit])
    hexec rfl rfl
  rw [hafter] at hbelow
  exact ⟨_, hstep, hbelow, by simp, rfl, rfl⟩

/-- `S_PL_RDFSR`, with a status byte that was ready (46_sequencer.md rule R288). -/
theorem State.WritesBelow.pollFlag_counted (hf : s.q.fsm = .plRdfsr) (hret : s.q.ret = .wrPoll)
    (hready : srReady s.cfg s.q.srOld = true) :
    s.Reaches fun t => t.WritesBelow ch ∧ t.Counted s.pageRegs := by
  have ha : (s.exchange .rdfsr).1 = .ok [0x80] := (State.exchange_chip_answer h.chip rfl rfl).trans rfl
  have hexec : exec .rdfsr s = .next ((s.exchange .rdfsr).2.setReg 0x80).contPage := by
    simp [exec, execRdfsr, hf, State.resume, ha, answerFailure, answerBytes, State.pollFlagStatus, hready, h.flag_ready,
      State.decideReady_page, hret]
  obtain ⟨hstep, hbelow⟩ := h.of_frame (by simp [State.fetchFrame, hf]) rfl rfl rfl hexec
    (by rw [State.contPage_env]; rfl) (by rw [State.contPage_env]; rfl)
  have hcounted := ((s.exchange .rdfsr).2.setReg 0x80).contPage_counted
  rw [State.setReg_pageRegs, State.exchange_pageRegs] at hcounted
  exact .of_step hstep (State.reaches_self ⟨hbelow, hcounted⟩)

/-- One iteration of the poller finds the chip ready, by the status register and, where the descriptor asks for it, the
flag status register (42_readiness_poller.md rule R183). -/
theorem State.WritesBelow.poll_counted (hf : s.q.fsm = .plRdsr) (hret : s.q.ret = .wrPoll) :
    s.Reaches fun t => t.WritesBelow ch ∧ t.Counted s.pageRegs := by
  have ha : (s.exchange .rdsr).1 = .ok [ch.sr] := (State.exchange_chip_answer h.chip rfl rfl).trans rfl
  have hfetch : s.fetchFrame = some .rdsr := by simp [State.fetchFrame, hf]
  cases hflag : s.dev.useFsr with
  | true =>
    have hexec : exec .rdsr s = .next (((s.exchange .rdsr).2.setSrOld ch.sr).setFsm .plRdfsr) := by
      simp [exec, execRdsr, hf, State.resume, ha, answerFailure, answerBytes, State.pollStatus, hflag]
    obtain ⟨hstep, hbelow⟩ := h.of_frame hfetch rfl rfl rfl hexec rfl rfl
    have hpoll := hbelow.pollFlag_counted rfl (by simpa using hret) (by simpa using h.status_ready)
    simp only [State.setFsm_pageRegs, State.setSrOld_pageRegs, State.exchange_pageRegs] at hpoll
    exact .of_step hstep hpoll
  | false =>
    have hexec : exec .rdsr s = .next ((s.exchange .rdsr).2.setSrOld ch.sr).contPage := by
      simp [exec, execRdsr, hf, State.resume, ha, answerFailure, answerBytes, State.pollStatus, hflag, h.status_ready,
        State.decideReady_page, hret]
    obtain ⟨hstep, hbelow⟩ := h.of_frame hfetch rfl rfl rfl hexec
      (by rw [State.contPage_env]; rfl) (by rw [State.contPage_env]; rfl)
    have hcounted := ((s.exchange .rdsr).2.setSrOld ch.sr).contPage_counted
    rw [State.setSrOld_pageRegs, State.exchange_pageRegs] at hcounted
    exact .of_step hstep (State.reaches_self ⟨hbelow, hcounted⟩)

/-- One chunk of the page loop, from its write-enable to the poller's return (43_program_erase_read.md rule R197). -/
theorem State.WritesBelow.chunk_counted (hf : s.q.fsm = .wrWren) :
    s.Reaches fun t => t.WritesBelow ((ch.after s.cfg .wren).programArray s.cfg s.q.cur s.chunkData)
      ∧ t.Counted s.pageRegs := by
  obtain ⟨t, hstep, hbelow, hregs, hft⟩ := h.step_wren hf
  obtain ⟨u, hstep', hbelow', hregs', hfu, hret⟩ := hbelow.step_program hft
  have hpoll := hbelow'.poll_counted hfu hret
  have hcfg : t.cfg = s.cfg := by
    have hbusy : s.q.fsm ≠ .idle := by rw [hf]; nofun
    obtain ⟨-, -, -, -, -, hcfg⟩ := busyKeepsCommand.1 s t hstep h.noReset hbusy
    exact hcfg
  have hcur : t.q.cur = s.q.cur := congrArg PageRegs.cur hregs
  have hdata : t.chunkData = s.chunkData :=
    congrArg (fun r : PageRegs => (r.wbuf.drop r.doneBytes.toNat).take r.chunk.toNat) hregs
  rw [hregs', hregs, hcfg, hcur, hdata] at hpoll
  exact .of_step hstep (.of_step hstep' hpoll)

end

/-! ## The loop -/

/-- The WRITE of `buf` at `[off, off + len)` has succeeded, and the array holds it over what `base` held. -/
def State.Written (base : Chip) (off len : Word64) (buf : List Byte) (t : State) : Prop :=
  t.q.fsm = .idle ∧ t.rsp.status = .ok ∧ t.rsp.count = len
    ∧ ∃ ch, t.env.transport = .wellBehaved ch ∧ base.HasProgrammed ch off.toNat len.toNat buf

/-- The page loop, from any of its chunks on, by the number of bytes left. -/
theorem State.WritesBelow.pageLoop_written {base : Chip} {s : State} {ch : Chip} (h : s.WritesBelow ch)
    (hf : s.q.fsm = .wrWren) (hdone : base.HasProgrammed ch s.q.off.toNat s.q.doneBytes.toNat s.wbuf) :
    s.Reaches (State.Written base s.q.off s.q.len s.wbuf) := by
  induction hleft : s.bytesLeft using Nat.strong_induction_on generalizing s ch with
  | _ left ih =>
    obtain ⟨⟨-, -, hbuf⟩, ⟨hcur, hpos, hpart⟩, -⟩ := h.inv.pageLoop (by simp [State.inPageLoop, hf])
    have hmem := ((State.chipOk_iff s).1 h.inv.chip ch h.chip).1
    have hbelow := h.below
    have hprogrammed : base.HasProgrammed ((ch.after s.cfg .wren).programArray s.cfg s.q.cur s.chunkData) s.q.off.toNat
        (s.q.doneBytes.toNat + s.q.chunk.toNat) s.wbuf := hdone.chunk hmem s.cfg hcur (by omega) (by omega)
    refine (h.chunk_counted hf).trans fun t ⟨ht, hcounted⟩ => ?_
    have hoff : t.q.off = s.q.off := hcounted.off
    have hlen : t.q.len = s.q.len := hcounted.len
    have hwbuf : t.wbuf = s.wbuf := hcounted.wbuf
    have hsum : t.q.doneBytes = s.q.doneBytes + s.q.chunk := hcounted.doneBytes
    have hcount : t.q.doneBytes.toNat = s.q.doneBytes.toNat + s.q.chunk.toNat := by
      have hlt := s.q.len.isLt
      rw [hsum, BitVec.toNat_add, Nat.mod_eq_of_lt (by omega)]
    rw [← hcount, ← hoff, ← hwbuf] at hprogrammed
    rw [← hoff, ← hlen, ← hwbuf]
    rcases hcounted.next with ⟨hmore, hft⟩ | ⟨hend, hft, hstatus, hrsp⟩
    · refine ih t.bytesLeft ?_ ht hft hprogrammed rfl
      simp only [State.bytesLeft] at hleft ⊢
      rw [hlen] at hmore ⊢
      omega
    · have hall : t.q.doneBytes = t.q.len :=
        BitVec.eq_of_toNat_eq (Nat.le_antisymm (by rw [hcount, hlen]; exact hpart) hend)
      rw [hall] at hprogrammed hrsp
      exact State.reaches_self ⟨hft, hstatus, hrsp, _, ht.chip, hprogrammed⟩

/-! ## The acceptance and the lock query -/

/-- A range inside an identified device passes `Precheck()` (60_exceptions.md rule R315). -/
theorem State.precheck_of_rangeOk {s : State} (hr : s.rangeOk) : s.precheck = none := by
  obtain ⟨hid, hlen, hcap⟩ := hr
  rcases s.precheck_cases with ⟨h, -⟩ | ⟨-, h, -⟩ | ⟨-, -, h, -⟩ | ⟨-, h⟩
  · exact absurd (hid.symm.trans h) nofun
  · simp [h] at hlen
  · omega
  · exact h

/-- The page loop of a WRITE at its first chunk (46_sequencer.md rule R279). -/
def State.firstChunk (s : State) : State :=
  ((s.setCursor s.q.off 0).setChunk (s.setCursor s.q.off 0).pageChunk).setFsm .wrWren

theorem State.afterLQ_page {s : State} (hop : s.q.op = 0x03) (hv : s.dev.progVariant = .page) {a : Option Bool}
    (ha : a ≠ some true) : s.afterLQ a = s.firstChunk := by
  simp [State.afterLQ, ha, hop, hv, State.firstChunk]

/-- Without the collaborator, the lock query is passed over or made of the chip (44_protection_codec.md rule R236). -/
theorem State.lqHead_cases {s : State} (h : s.cfg.lockQuery = .codec ∨ s.cfg.lockQuery = .absent) :
    s.lqHead = s.afterLQ none ∨ s.lqHead = s.setFsm .lqRdsr := by
  unfold State.lqHead
  rcases h with h | h <;> rw [h]
  · cases s.dev.protVariant
    · exact .inr rfl
    · exact .inl rfl
  · exact .inl rfl

/-- A range that ends at or below the protected suffix is not contained in it (44_protection_codec.md rule R234). -/
theorem isLockedSr_of_below {c : Config} {cap off n : Nat} {sr : Byte} (hn : 1 ≤ n) (h : off + n ≤ lockOff c cap sr) :
    isLockedSr c cap sr off n = false := by
  simp only [isLockedSr, Bool.and_eq_false_iff, decide_eq_false_iff_not]
  omega

/-- A WRITE in page mode behind its `Precheck()` reaches the first chunk of its loop, the chip unchanged. -/
theorem State.WritesBelow.lqHead_reaches_firstChunk {u : State} {ch : Chip} (h : u.lqHead.WritesBelow ch)
    (hr : u.rangeOk) (hop : u.q.op = 0x03) (hv : u.dev.progVariant = .page)
    (hquery : u.cfg.lockQuery = .codec ∨ u.cfg.lockQuery = .absent) (hcap : u.dev.capacity.toNat = ch.desc.capacity) :
    u.lqHead.Reaches fun t => t.WritesBelow ch ∧ t.q.fsm = .wrWren ∧ t.q.doneBytes = 0 ∧ t.q.off = u.q.off
      ∧ t.q.len = u.q.len ∧ t.wbuf = u.wbuf := by
  obtain ⟨-, hlen, -⟩ := id hr
  rcases State.lqHead_cases hquery with hhead | hhead <;> rw [hhead] at h ⊢
  · rw [State.afterLQ_page (a := none) hop hv nofun] at h ⊢
    exact State.reaches_self ⟨h, rfl, rfl, rfl, rfl, rfl⟩
  · have hfree : u.rangeLocked ch.sr = false := isLockedSr_of_below hlen (by rw [hcap]; exact h.below)
    have ha : ((u.setFsm .lqRdsr).exchange .rdsr).1 = .ok [ch.sr] :=
      (State.exchange_chip_answer h.chip rfl rfl).trans rfl
    have hexec : exec .rdsr (u.setFsm .lqRdsr) = .next ((u.setFsm .lqRdsr).exchange .rdsr).2.firstChunk := by
      have hunlocked : ((u.setFsm .lqRdsr).exchange .rdsr).2.rangeLocked ch.sr = false := by
        simpa [State.rangeLocked] using hfree
      simp [exec, execRdsr, State.resume, ha, answerFailure, answerBytes, State.lockQueried, hunlocked,
        State.afterLQ_page, hop, hv]
    obtain ⟨hstep, hbelow⟩ := h.of_frame rfl rfl rfl rfl hexec rfl rfl
    exact .of_step hstep (State.reaches_self
      ⟨hbelow, rfl, rfl, by simp [State.firstChunk], by simp [State.firstChunk], by simp [State.firstChunk]⟩)

/-- The record of a WRITE decodes to it (30_encoding.md rules R91, R92). -/
theorem decodeRecord_write {off len : Word64} {buf : List Byte} (h : buf.length = len.toNat) :
    decodeRecord (commandRecord 0x03 off len buf) = .ok (.write off len buf) := by
  have hcode := Laws.OneInterface.commandRecord_code 0x03 off len buf
  simp only [decodeRecord, hcode]
  exact if_pos h

/-- The state in which a WRITE has passed its `Precheck()`. -/
def State.acceptedWrite (s : State) (off len : Word64) (buf : List Byte) : State :=
  (s.takeRecord.load 0x03 off len).holdBuffer buf

/-- The acceptance step of a WRITE of a range inside the device (43_program_erase_read.md rule R194). -/
theorem step_of_write {s : State} {off len : Word64} {buf : List Byte} {rest : List CommandRecord}
    (hc : s.cfg.wf = true) (hr : s.env.resetLine = false) (hf : s.q.fsm = .idle)
    (hport : s.env.port = commandRecord 0x03 off len buf :: rest) (hbuf : buf.length = len.toNat)
    (hrange : (s.acceptedWrite off len buf).rangeOk) : step s = .next (s.acceptedWrite off len buf).lqHead := by
  have hpre := State.precheck_of_rangeOk hrange
  rw [step_of_idle hc hr hf]
  simp only [stepIdle, hport, decodeRecord_write hbuf, exec, execWrite, State.whenIdle, State.takeRecord_q, hf, if_true,
    State.withPrecheck]
  rw [show (s.takeRecord.load 0x03 off len).holdBuffer buf = s.acceptedWrite off len buf from rfl, hpre]

/-- Settles O59: the acceptance step and the lock query reach the first chunk, with nothing programmed, and the page loop
programs the rest. -/
theorem pageWriteProgramsRange : Obligations.PageWriteProgramsRange := by
  intro s ch off len buf rest hinv hreset hf hid hv hquery hwip hflag hchip hport hbuf hne hin hcap hbelow
  have hrange : (s.acceptedWrite off len buf).rangeOk :=
    ⟨hid, Nat.pos_of_ne_zero fun h0 => hne (BitVec.eq_of_toNat_eq h0), hin⟩
  have hstep := step_of_write hinv.config hreset hf hport hbuf hrange
  have henv : (s.acceptedWrite off len buf).lqHead.env = s.takeRecord.env := by
    rcases State.lqHead_cases (s := s.acceptedWrite off len buf) hquery with h | h <;> rw [h]
    · rw [State.afterLQ_page (s := s.acceptedWrite off len buf) (a := none) rfl hv nofun]
      rfl
    · rfl
  have hheld := (s.acceptedWrite off len buf).lqHead_held
  have hcfg : (s.acceptedWrite off len buf).lqHead.cfg = s.cfg := congrArg Held.cfg hheld
  have hoff : (s.acceptedWrite off len buf).lqHead.q.off = off := congrArg Held.off hheld
  have hlen : (s.acceptedWrite off len buf).lqHead.q.len = len := congrArg Held.len hheld
  have hwrites : (s.acceptedWrite off len buf).lqHead.WritesBelow ch :=
    { inv := State.lqHead_inv hinv.baseOk hrange (.inl ⟨rfl, hbuf⟩)
      noReset := by rw [henv]; exact hreset
      wip := by rw [hcfg]; exact hwip
      flag := by rw [hcfg]; exact hflag
      chip := by rw [henv]; exact hchip
      below := by rw [hoff, hlen, hcfg]; exact hbelow }
  have hwritten : s.Reaches (State.Written ch off len buf) := by
    refine .of_step hstep ((hwrites.lqHead_reaches_firstChunk hrange rfl hv hquery hcap).trans ?_)
    rintro t ⟨ht, hft, hdone, rfl, rfl, rfl⟩
    exact ht.pageLoop_written hft (by rw [hdone]; exact ch.hasProgrammed_zero _ _)
  obtain ⟨n, t, hrun, hft, hstatus, hcount, ch', hchip', hsr, hmem⟩ := hwritten
  exact ⟨n, t, ch', hrun, hft, hstatus, hcount, hchip', hsr, hmem⟩

end Sys2Proof.Machine
end

section
/-!
PROOFS. The frames of the downward interface (30_encoding.md rules R100 to R105): what the transport side's decoder makes of
each shape of exchange (O3), and how a frame is laid out (O5).
-/

namespace Sys2Proof

/-! ## The shapes of an exchange -/

section

variable (c : Config) (g : FrameGeom) (op : Byte) (dummies n : Nat) (a len : Word64) (p : List Byte)

@[simp] theorem receiveXfer_cmd : (receiveXfer op n).cmd = [op] := rfl

@[simp] theorem sendXfer_cmd : (sendXfer op p).cmd = [op] := rfl

@[simp] theorem silentXfer_cmd : (silentXfer op).cmd = [op] := rfl

@[simp] theorem arrayReadXfer_cmd :
    (arrayReadXfer c g op dummies a len).cmd = op :: (addressPart g a ++ List.replicate dummies c.dummyByte) := rfl

@[simp] theorem programXfer_cmd : (programXfer g op a p).cmd = op :: addressPart g a := rfl

@[simp] theorem eraseXfer_cmd : (eraseXfer g op a).cmd = op :: addressPart g a := rfl

@[simp] theorem receiveXfer_tx : (receiveXfer op n).tx = none := rfl

@[simp] theorem sendXfer_rxn : (sendXfer op p).rxn = none := rfl

@[simp] theorem silentXfer_tx : (silentXfer op).tx = none := rfl

@[simp] theorem arrayReadXfer_tx : (arrayReadXfer c g op dummies a len).tx = none := rfl

@[simp] theorem programXfer_rxn : (programXfer g op a p).rxn = none := rfl

@[simp] theorem eraseXfer_tx : (eraseXfer g op a).tx = none := rfl

end

/-! ## Decoding each part of a frame -/

/-- A frame's own opcode byte passes the decoder's test of it (30_encoding.md rule R104). -/
theorem opcodeTest_passes (op : Byte) : (some op).any (fun o => o != op) = false := by simp

@[simp] theorem decodeBare_nil (k : Except DecodeError Instr) : decodeBare [] k = k := if_pos rfl

theorem decodeReceive_receiveXfer (op : Byte) (n : Nat) (i : Instr) : decodeReceive (receiveXfer op n) n i = .ok i :=
  if_pos ⟨rfl, rfl⟩

theorem decodeSilent_silentXfer (op : Byte) (i : Instr) : decodeSilent (silentXfer op) i = .ok i := if_pos ⟨rfl, rfl⟩

theorem decodeSilent_eraseXfer (g : FrameGeom) (op : Byte) (a : Word64) (i : Instr) :
    decodeSilent (eraseXfer g op a) i = .ok i := if_pos ⟨rfl, rfl⟩

theorem decodeSend_sendXfer {ok : List Byte → Bool} {p : List Byte} (op : Byte) (k : List Byte → Instr) (h : ok p = true) :
    decodeSend (sendXfer op p) ok k = .ok (k p) := if_pos h

theorem decodeSend_programXfer {ok : List Byte → Bool} {p : List Byte} (g : FrameGeom) (op : Byte) (a : Word64)
    (k : List Byte → Instr) (h : ok p = true) : decodeSend (programXfer g op a p) ok k = .ok (k p) := if_pos h

/-- The address is read back from its bytes, where it fits them (30_encoding.md rule R101; 20_memory.md rule R61). -/
theorem decodeAddressed_addressPart {g : FrameGeom} {a : Word64} (k : Word64 → Except DecodeError Instr)
    (ha : addrFits g a = true) : decodeAddressed g (addressPart g a) k = k a := by
  simp [decodeAddressed, word64_of_addressPart ha]

/-- An array read is read back with its address and length, under any number of dummy bytes (30_encoding.md rules R101,
R102). -/
theorem decodeArrayRead_arrayReadXfer {c : Config} {g : FrameGeom} {a n : Word64} (op : Byte) (dummies : Nat)
    (k : Word64 → Word64 → Instr) (ha : addrFits g a = true) (hn : n ≠ 0) :
    decodeArrayRead c g dummies (arrayReadXfer c g op dummies a n)
      (addressPart g a ++ List.replicate dummies c.dummyByte) k = .ok (k a n) := by
  have hlen : (addressPart g a ++ List.replicate dummies c.dummyByte).length = g.addrWidth + dummies := by simp
  have hdummies : (addressPart g a ++ List.replicate dummies c.dummyByte).drop g.addrWidth
      = List.replicate dummies c.dummyByte := List.drop_left' (addressPart_length g a)
  have haddr : (addressPart g a ++ List.replicate dummies c.dummyByte).take g.addrWidth = addressPart g a :=
    List.take_left' (addressPart_length g a)
  have hcount : 1 ≤ n.toNat ∧ n.toNat < 2 ^ 64 :=
    ⟨Nat.pos_of_ne_zero fun h0 => hn (BitVec.eq_of_toNat_eq h0), n.isLt⟩
  rw [decodeArrayRead, if_pos hlen, if_pos hdummies, haddr, word64_of_addressPart ha]
  exact (if_pos hcount).trans (by rw [BitVec.ofNat_toNat, BitVec.setWidth_eq])

/-- The two operands of a well-formed array read. -/
theorem readOperands_of_wf {g : FrameGeom} {a n : Word64} (h : (addrFits g a && n != 0) = true) :
    addrFits g a = true ∧ n ≠ 0 := by
  simpa using h

/-- Settles O3: the opcode byte passes its test, and each shape of exchange is read back by the lemma of its shape. -/
theorem frameRoundTrip : Obligations.FrameRoundTrip := by
  intro c g i k hk hwf
  cases i
  case identify | read | write | erase | lock | unlock | geometry | reprobe | isLocked => cases hk
  all_goals
    cases hk
    refine ⟨_, rfl, ?_⟩
  case rdid | rdsr | rdfsr | rdvr => simp [decodeFrame, FrameKind.opcode, decodeReceive_receiveXfer]
  case wren | wrdi => simp [decodeFrame, FrameKind.opcode, decodeSilent_silentXfer]
  case wrsr | wrvr =>
    simp only [decodeFrame, FrameKind.opcode, sendXfer_cmd, decodeBare_nil, opcodeTest_passes, Option.any_none,
      Bool.false_eq_true, if_false]
    exact decodeSend_sendXfer _ _ hwf
  case readFrame | readFast | readDual | readQuad | readQuadIo =>
    obtain ⟨ha, hn⟩ := readOperands_of_wf hwf
    simp only [decodeFrame, FrameKind.opcode, arrayReadXfer_cmd, opcodeTest_passes, Bool.false_eq_true, if_false]
    exact decodeArrayRead_arrayReadXfer _ _ _ ha hn
  case pp | ppQuad | bp | aaiWp =>
    obtain ⟨ha, hp⟩ := Bool.and_eq_true_iff.1 hwf
    simp only [decodeFrame, FrameKind.opcode, programXfer_cmd, decodeAddressed_addressPart _ ha, opcodeTest_passes,
      Bool.false_eq_true, if_false]
    exact decodeSend_programXfer _ _ _ _ hp
  case se | be4k =>
    simp [decodeFrame, FrameKind.opcode, decodeAddressed_addressPart _ hwf, decodeSilent_eraseXfer]

/-! ## The layout of a frame -/

section

variable {c : Config} {g : FrameGeom} {i : Instr} {x : Xfer}

/-- A frame has the length of its class (30_encoding.md rule R103). -/
theorem encodeFrame_length {k : FrameKind} (hk : i.kind = some k) (hx : encodeFrame c g i = some x) :
    x.cmd.length = k.frameLength g := by
  cases i
  case identify | read | write | erase | lock | unlock | geometry | reprobe | isLocked => cases hx
  all_goals
    cases hk
    cases hx
    simp [FrameKind.frameLength]
  all_goals omega

/-- An exchange sends a payload or receives one, never both (20_memory.md rule R67). -/
theorem encodeFrame_onePayload (hx : encodeFrame c g i = some x) : x.tx = none ∨ x.rxn = none := by
  cases i
  case identify | read | write | erase | lock | unlock | geometry | reprobe | isLocked => cases hx
  all_goals
    cases hx
    simp

/-- A frame begins with the byte of its symbol, or with the vendor's (30_encoding.md rules R100, R110). -/
theorem encodeFrame_opcode {k : FrameKind} (hk : i.kind = some k) (hx : encodeFrame c g i = some x) :
    ∃ op rest, x.cmd = op :: rest ∧ (k.opcode c.opc = some op ∨ k = .rdvr ∨ k = .wrvr) := by
  cases i
  case identify | read | write | erase | lock | unlock | geometry | reprobe | isLocked => cases hx
  case rdvr => cases hk; cases hx; exact ⟨_, _, rfl, .inr (.inl rfl)⟩
  case wrvr => cases hk; cases hx; exact ⟨_, _, rfl, .inr (.inr rfl)⟩
  all_goals
    cases hk
    cases hx
    exact ⟨_, _, rfl, .inl rfl⟩

/-- The address part follows the opcode byte (30_encoding.md rules R100, R101). -/
theorem encodeFrame_address {a : Word64} (ha : i.address = some a) (hx : encodeFrame c g i = some x) :
    (x.cmd.drop 1).take g.addrWidth = addressPart g a := by
  cases i
  case readFrame | readFast | readDual | readQuad | readQuadIo =>
    cases ha
    cases hx
    exact List.take_left' (addressPart_length g a)
  case pp | ppQuad | bp | aaiWp | se | be4k =>
    cases ha
    cases hx
    exact List.take_of_length_le (addressPart_length g a).le
  all_goals cases ha

end

/-- Byte `k` of an address part is byte `w - 1 - k` of the address (30_encoding.md rule R101). -/
theorem addressPart_byte (g : FrameGeom) (a : Word64) {k : Nat} (hk : k < g.addrWidth) :
    ∃ b, (addressPart g a)[k]? = some b ∧ b.toNat = a.toNat / 256 ^ (g.addrWidth - 1 - k) % 256 := by
  refine ⟨_, bytesBE_getElem? a.toNat g.addrWidth k hk, ?_⟩
  rw [BitVec.toNat_ofNat, Nat.shiftRight_eq_div_pow, Nat.pow_mul]

/-- A fitting address is not cut short (20_memory.md rule R61). -/
theorem natOfBE_addressPart {g : FrameGeom} {a : Word64} (h : addrFits g a = true) :
    natOfBE (addressPart g a) = a.toNat := by
  have hfits : a.toNat < 256 ^ g.addrWidth := by simpa [addrFits, Nat.pow_mul] using h
  rw [addressPart, natOfBE_bytesBE, Nat.mod_eq_of_lt hfits]

/-- Settles O5, clause by clause of the layout. -/
theorem frameLayout : Obligations.FrameLayout :=
  ⟨fun _ _ _ _ _ hk hx =>
      ⟨encodeFrame_length hk hx, encodeFrame_onePayload hx, encodeFrame_opcode hk hx, fun _ ha => encodeFrame_address ha hx⟩,
    fun g a => ⟨addressPart_length g a, fun _ => addressPart_byte g a, natOfBE_addressPart⟩⟩

end Sys2Proof
end

section
/-!
PROOFS. The end of a command as one update of the state (46_sequencer.md rule R280), and frame RDID where nothing is
identified: the exchange failed, or the answer is short (O39).
-/

namespace Sys2Proof.Machine

open Sys2Proof

/-! ## What an exchange leaves -/

@[simp] theorem State.sent_cfg (s : State) (i : Instr) : (s.sent i).cfg = s.cfg := s.exchange_cfg i
@[simp] theorem State.sent_q (s : State) (i : Instr) : (s.sent i).q = s.q := s.exchange_q i
@[simp] theorem State.sent_rsp (s : State) (i : Instr) : (s.sent i).rsp = s.rsp := s.exchange_rsp i

/-! ## The end of a command, by its status -/

/-- `TransportError` takes its cause from `q.CAUSE` (46_sequencer.md rule R280). -/
theorem State.endWith_transportError (s : State) (n fo fl : Word64) :
    s.endWith .transportError n fo fl =
      { s with q := { s.q with fsm := .idle }, rsp := s.rsp.transportError s.q.cause n fo fl } := rfl

/-- Every other error leaves `rsp.cause` (46_sequencer.md rule R280). -/
theorem State.endWith_of_error (s : State) {st : Status} (hok : st ≠ .ok) (ht : st ≠ .transportError)
    (n fo fl : Word64) :
    s.endWith st n fo fl = { s with q := { s.q with fsm := .idle }, rsp := s.rsp.error st n fo fl } := by
  simp [State.endWith, Rsp.error, hok, ht]

/-! ## Frame RDID -/

/-- In `S_ID_RDID` the frame is its exchange, and the answer decides (46_sequencer.md rule R282). -/
theorem exec_rdid_of_idRdid {s : State} (hf : s.q.fsm = .idRdid) :
    exec .rdid s = .next ((s.sent .rdid).identifyAnswered (s.reply .rdid)) := by
  have hsent : (s.exchange .rdid).2.q.fsm = .idRdid := by rw [s.exchange_q, hf]
  simp only [exec, execRdid, hsent, State.sent, State.reply]

/-- A failed exchange: its cause is written to `q.CAUSE` and from there to the response (40_register_access.md rule
R131). -/
theorem State.identifyAnswered_err (s : State) (c : TransportCause) :
    s.identifyAnswered (.err c) =
      { s with q := { s.q with cause := .transport c, fsm := .idle }
               rsp := s.rsp.transportError (.transport c) 0 s.q.off s.q.len } :=
  (s.setCause (.transport c)).endWith_transportError 0 s.q.off s.q.len

/-- A short answer: no identification (40_register_access.md rule R131; 41_identification.md rule R151). -/
theorem State.identifyAnswered_short (s : State) {rx : List Byte} (h : rx.length < s.cfg.idMaxLen) :
    s.identifyAnswered (.ok rx) =
      { s with q := { s.q with fsm := .idle }, rsp := s.rsp.error .notFound 0 s.q.off s.q.len } :=
  calc s.identifyAnswered (.ok rx)
    _ = s.endWith .notFound 0 s.q.off s.q.len := if_pos h
    _ = _ := s.endWith_of_error (st := .notFound) nofun nofun 0 s.q.off s.q.len

/-- Settles O39, by the answer's case of `S_ID_RDID`: the exchange leaves `q`, `rsp` and the configuration. -/
theorem rdidFails : Obligations.RdidFails := by
  intro s hf
  rw [exec_rdid_of_idRdid hf]
  constructor
  case left =>
    intro c hc
    rw [hc, State.identifyAnswered_err, State.sent_q, State.sent_rsp]
  case right =>
    intro rx hrx hshort
    have hsent : rx.length < (s.sent .rdid).cfg.idMaxLen := by rwa [State.sent_cfg]
    rw [hrx, State.identifyAnswered_short _ hsent, State.sent_q, State.sent_rsp]

end Sys2Proof.Machine
end

section
/-!
PROOFS. The scan of the chip table as the search for the least matching index, and the policies of the derivation case by
case (41_identification.md rules R152 to R164): O35, O36.
-/

namespace Sys2Proof.Machine

open Sys2Proof

/-! ## The scan -/

/-- The match of one descriptor (41_identification.md rule R152). -/
theorem descriptorMatches_iff (d : ChipDescriptor) (r : List Byte) :
    descriptorMatches d r = true ↔ d.idLen ≤ r.length ∧ r.take d.idLen = d.id.take d.idLen := by
  simp [descriptorMatches]

/-- `d`, at index `i`, matches and no entry before it does (41_identification.md rule R153). `firstMatchFrom_eq_some_iff`
ties it to the scan. -/
def IsLeastMatch (table : List ChipDescriptor) (r : List Byte) (i : Nat) (d : ChipDescriptor) : Prop :=
  table[i]? = some d ∧ descriptorMatches d r = true
    ∧ ∀ j d', j < i → table[j]? = some d' → ¬ descriptorMatches d' r = true

section

variable {e d : ChipDescriptor} {ds : List ChipDescriptor} {r : List Byte} {i : Nat}

theorem not_isLeastMatch_nil : ¬ IsLeastMatch [] r i d := fun ⟨hd, _⟩ => nomatch hd

theorem isLeastMatch_cons_zero : IsLeastMatch (e :: ds) r 0 d ↔ e = d ∧ descriptorMatches d r = true := by
  simp [IsLeastMatch]

/-- A later entry is the least match when the first one does not match and it is the least of the rest. -/
theorem isLeastMatch_cons_succ :
    IsLeastMatch (e :: ds) r (i + 1) d ↔ ¬ descriptorMatches e r = true ∧ IsLeastMatch ds r i d := by
  constructor
  case mp =>
    intro ⟨hd, hm, hleast⟩
    exact ⟨hleast 0 e (Nat.succ_pos i) rfl, hd, hm, fun j d' hj => hleast (j + 1) d' (Nat.succ_lt_succ hj)⟩
  case mpr =>
    intro ⟨he, hd, hm, hleast⟩
    refine ⟨hd, hm, fun j d' hj hd' => ?_⟩
    cases j with
    | zero => exact Option.some.inj hd' ▸ he
    | succ j => exact hleast j d' (Nat.lt_of_succ_lt_succ hj) hd'

/-- The scan that numbers its entries from `n` on answers the least match, its index moved by `n`
(41_identification.md rule R153). -/
theorem firstMatchFrom_eq_some_iff (n m : Nat) :
    firstMatchFrom n ds r = some (m, d) ↔ ∃ i, m = n + i ∧ IsLeastMatch ds r i d := by
  induction ds generalizing n with
  | nil => simp [firstMatchFrom, not_isLeastMatch_nil]
  | cons e ds ih =>
    by_cases he : descriptorMatches e r = true
    case pos =>
      rw [firstMatchFrom, if_pos he, Option.some.injEq, Prod.mk.injEq]
      constructor
      · rintro ⟨rfl, rfl⟩
        exact ⟨0, rfl, isLeastMatch_cons_zero.2 ⟨rfl, he⟩⟩
      · rintro ⟨_ | i, rfl, hleast⟩
        · exact ⟨rfl, (isLeastMatch_cons_zero.1 hleast).1⟩
        · exact absurd he (isLeastMatch_cons_succ.1 hleast).1
    case neg =>
      rw [firstMatchFrom, if_neg he, ih]
      constructor
      · rintro ⟨i, rfl, hleast⟩
        exact ⟨i + 1, by omega, isLeastMatch_cons_succ.2 ⟨he, hleast⟩⟩
      · rintro ⟨_ | i, rfl, hleast⟩
        · obtain ⟨rfl, hm⟩ := isLeastMatch_cons_zero.1 hleast
          exact absurd hm he
        · exact ⟨i, by omega, (isLeastMatch_cons_succ.1 hleast).2⟩

/-- The scan finds nothing when no entry matches (41_identification.md rule R153). -/
theorem firstMatchFrom_eq_none_iff (n : Nat) :
    firstMatchFrom n ds r = none ↔ ∀ d ∈ ds, ¬ descriptorMatches d r = true := by
  induction ds generalizing n with
  | nil => simp [firstMatchFrom]
  | cons e ds ih =>
    rw [firstMatchFrom, List.forall_mem_cons]
    by_cases he : descriptorMatches e r = true
    case pos =>
      rw [if_pos he]
      exact iff_of_false nofun fun hnone => hnone.1 he
    case neg =>
      rw [if_neg he, ih]
      exact (and_iff_right he).symm

end

/-- Settles O35: from index 0 the scan's number is the entry's index. -/
theorem firstMatchIsLeast : Obligations.FirstMatchIsLeast := by
  intro table r
  simp only [← descriptorMatches_iff]
  refine ⟨fun i d => ?_, firstMatchFrom_eq_none_iff 0⟩
  rw [firstMatchFrom_eq_some_iff]
  simp only [Nat.zero_add, exists_eq_left']
  rfl

/-! ## The opcode policy -/

section

variable {m : RxMode} {f : ChipFlags}

/-! The four read conditions in their order (41_identification.md rule R155). -/

theorem selectRead_slow : selectRead .slow f = .read := rfl

theorem selectRead_quad (hf : f.rdQuad = true) : selectRead .quad f = .readQuad := by
  simp [selectRead, hf]

theorem selectRead_dual (hf : f.rdDual = true) : selectRead .dual f = .readDual := by
  simp [selectRead, hf]

theorem selectRead_otherwise (hslow : m ≠ .slow) (hquad : ¬ (m = .quad ∧ f.rdQuad = true))
    (hdual : ¬ (m = .dual ∧ f.rdDual = true)) : selectRead m f = .readFast := by
  rw [selectRead, if_neg hslow, if_neg hquad, if_neg hdual]

theorem selectProgram_eq_ppQuad_iff (m : TxMode) : selectProgram m f = .ppQuad ↔ m = .quad ∧ f.wrQuad = true := by
  simp [selectProgram]

end

theorem Dev.quadSelected_iff (v : Dev) :
    v.quadSelected = true ↔ v.readOpcode = .readQuad ∨ v.programOpcode = .ppQuad := by
  simp [Dev.quadSelected]

/-- The native sector fits its register (41_identification.md rule R159): it is no larger than the capacity. -/
theorem deriveDev_sectorSize {c : Config} {d : ChipDescriptor} (hd : c.descriptorOk d = true) (i : Nat) (r : List Byte)
    (old : Dev) : (deriveDev c i d r old).sectorSize.toNat = d.sectorSize := by
  obtain ⟨-, -, hcount, -, hcap, -⟩ := (c.descriptorOk_iff d).1 hd
  have hsector : d.sectorSize < 2 ^ 64 := Nat.lt_of_le_of_lt (Nat.le_mul_of_pos_right _ hcount) hcap
  exact (BitVec.toNat_ofNat _ _).trans (Nat.mod_eq_of_lt hsector)

/-! The two variants (41_identification.md rule R162). -/

theorem deriveDev_progVariant_iff (c : Config) (i : Nat) (d : ChipDescriptor) (r : List Byte) (old : Dev) :
    (deriveDev c i d r old).progVariant = .byte ↔ d.flags.byteProg = true := by
  simp [deriveDev]

theorem deriveDev_protVariant_iff (c : Config) (i : Nat) (d : ChipDescriptor) (r : List Byte) (old : Dev) :
    (deriveDev c i d r old).protVariant = .bp ↔ d.flags.hasBp = true := by
  simp [deriveDev]

/-- Settles O36: the derived device carries the modes of the configuration and what the policies select for them. -/
theorem opcodePolicy : Obligations.OpcodePolicy := by
  intro c i d r old v
  have hread : v.readOpcode = selectRead v.readMode d.flags := rfl
  refine ⟨fun hm => ?slow, fun hm hf => ?quad, fun hm hf => ?dual, selectRead_otherwise,
    selectProgram_eq_ppQuad_iff _, v.quadSelected_iff,
    fun hd => ⟨deriveDev_sectorSize hd i r old, deriveDev_capacity hd i r old⟩,
    deriveDev_progVariant_iff c i d r old, deriveDev_protVariant_iff c i d r old, rfl⟩
  case slow => rw [hread, hm, selectRead_slow]
  case quad => rw [hread, hm, selectRead_quad hf]
  case dual => rw [hread, hm, selectRead_dual hf]

end Sys2Proof.Machine
end

section
/-!
PROOFS. IDENTIFY from its acceptance to the answered RDID (41_identification.md rules R150 to R153, R164 to R166): O28,
O38.
-/

namespace Sys2Proof.Machine

open Sys2Proof

/-! ## The ends outside the loops -/

/-- The successful end as one update of the state (46_sequencer.md rule R280). -/
theorem State.endOk_eq (s : State) (n : Word64) :
    s.endOk n = { s with q := { s.q with fsm := .idle }, rsp := s.rsp.success n } := by
  simp [State.endOk, State.endWith, Rsp.success]

/-- An error outside the loops: count 0, and the record's offset and length (60_exceptions.md rule R311). -/
theorem State.endOutside_of_error (s : State) {st : Status} (hok : st ≠ .ok) (ht : st ≠ .transportError) :
    s.endOutside st = { s with q := { s.q with fsm := .idle }, rsp := s.rsp.error st 0 s.q.off s.q.len } :=
  s.endWith_of_error hok ht 0 s.q.off s.q.len

/-! ## The acceptance of IDENTIFY -/

/-- In `S_IDLE` a record is taken (30_encoding.md rule R90). -/
theorem State.whenIdle_of_idle {s : State} (hf : s.q.fsm = .idle) (k : State → State) : s.whenIdle k = k s := if_pos hf

/-- Settles O28: the flag alone decides. -/
theorem identifyAccepted : Obligations.IdentifyAccepted := by
  intro s off len hf
  rw [exec, execIdentify, State.whenIdle_of_idle hf]
  dsimp only
  rw [State.load_dev]
  split
  · rw [State.endOk_eq]
    rfl
  · rfl

/-! ## Frame RDID, answered in full -/

section

variable {s : State} {rx : List Byte} {i : Nat} {d : ChipDescriptor}

/-- An answer that is not short goes to the scan (41_identification.md rule R151). -/
theorem State.identifyAnswered_full (h : s.cfg.idMaxLen ≤ rx.length) :
    s.identifyAnswered (.ok rx) = s.identifyWith rx := if_neg (Nat.not_lt.2 h)

/-- No descriptor matches (41_identification.md rule R153). -/
theorem State.identifyWith_unmatched (hm : firstMatchFrom 0 s.cfg.chipTable rx = none) :
    s.identifyWith rx = { s with q := { s.q with idbuf := rx, fsm := .idle }
                                 rsp := s.rsp.error .notFound 0 s.q.off s.q.len } := by
  have hend : s.identifyWith rx = (s.setIdbuf rx).endOutside .notFound := by
    simp only [State.identifyWith, State.setIdbuf_cfg, hm]
  exact hend.trans (State.endOutside_of_error _ (st := .notFound) nofun nofun)

/-- The derivation reads the response that has just been written to `q.IDBUF` (41_identification.md rules R151, R153). -/
theorem State.identifyWith_matched (hm : firstMatchFrom 0 s.cfg.chipTable rx = some (i, d)) :
    s.identifyWith rx = (s.setIdbuf rx).identifyMatched i d := by
  simp only [State.identifyWith, State.setIdbuf_cfg, hm]

/-! The procedure is looked up by the response's first byte (46_sequencer.md rule R282), not by the device. -/

@[simp] theorem State.setDev_quadProc (v : Dev) : (s.setDev v).quadProc = s.quadProc := rfl

theorem State.quadProc_setIdbuf {vid : Byte} (hvid : rx.head? = some vid) :
    (s.setIdbuf rx).quadProc = s.cfg.vendorProc vid := by
  obtain ⟨rest, rfl⟩ := List.head?_eq_some_iff.1 hvid
  rfl

/-- No quad opcode is selected: the flag is the last write (41_identification.md rules R164, R165). -/
theorem State.identifyMatched_plain (hq : (deriveDev s.cfg i d s.q.idbuf s.dev).quadSelected = false) :
    s.identifyMatched i d =
      { s with dev := { deriveDev s.cfg i d s.q.idbuf s.dev with identified := true }
               q := { s.q with fsm := .idle }, rsp := s.rsp.success 0 } := by
  have hdone : s.identifyMatched i d = (s.setDev (deriveDev s.cfg i d s.q.idbuf s.dev)).identifyDone := by
    simp [State.identifyMatched, hq]
  rw [hdone, State.identifyDone, State.endOk_eq]
  rfl

/-- A quad opcode is selected, and the vendor has no procedure (41_identification.md rule R164). -/
theorem State.identifyMatched_unknownVendor (hq : (deriveDev s.cfg i d s.q.idbuf s.dev).quadSelected = true)
    (hv : s.quadProc = none) :
    s.identifyMatched i d =
      { s with dev := deriveDev s.cfg i d s.q.idbuf s.dev
               q := { s.q with fsm := .idle }, rsp := s.rsp.error .unsupportedQuadVendor 0 s.q.off s.q.len } := by
  have hend : s.identifyMatched i d =
      (s.setDev (deriveDev s.cfg i d s.q.idbuf s.dev)).endOutside .unsupportedQuadVendor := by
    simp [State.identifyMatched, hq, hv]
  exact hend.trans (State.endOutside_of_error _ (st := .unsupportedQuadVendor) nofun nofun)

/-- A quad opcode is selected, and the vendor's procedure starts (41_identification.md rule R164). -/
theorem State.identifyMatched_knownVendor {p : QuadProc}
    (hq : (deriveDev s.cfg i d s.q.idbuf s.dev).quadSelected = true) (hv : s.quadProc = some p) :
    s.identifyMatched i d =
      { s with dev := deriveDev s.cfg i d s.q.idbuf s.dev, q := { s.q with fsm := .qnRd1 } } := by
  have hstart : s.identifyMatched i d = (s.setDev (deriveDev s.cfg i d s.q.idbuf s.dev)).setFsm .qnRd1 := by
    simp [State.identifyMatched, hq, hv]
  exact hstart

end

/-- Settles O38, by the scan's result and the cases of a match; the exchange leaves `q`, `rsp` and the configuration. -/
theorem rdidIdentifies : Obligations.RdidIdentifies := by
  intro s rx hf hrx hlen u
  have hcfg : u.cfg = s.cfg := s.sent_cfg .rdid
  have hq : u.q = s.q := s.sent_q .rdid
  have hrsp : u.rsp = s.rsp := s.sent_rsp .rdid
  have hexec : exec .rdid s = .next (u.identifyWith rx) := by
    rw [exec_rdid_of_idRdid hf, hrx, State.identifyAnswered_full (by rwa [State.sent_cfg])]
  rw [hexec, ← hcfg, ← hq, ← hrsp]
  refine ⟨fun hnone => by rw [State.identifyWith_unmatched hnone], fun i d hm => ?_⟩
  rw [State.identifyWith_matched hm]
  refine ⟨fun hsel => ?plain, fun vid hsel hvid hv => ?unknown, fun vid p hsel hvid hv => ?known⟩
  case plain =>
    rw [State.identifyMatched_plain (s := u.setIdbuf rx) hsel]
    rfl
  case unknown =>
    rw [State.identifyMatched_unknownVendor (s := u.setIdbuf rx) hsel ((State.quadProc_setIdbuf hvid).trans hv)]
    rfl
  case known =>
    rw [State.identifyMatched_knownVendor (s := u.setIdbuf rx) hsel ((State.quadProc_setIdbuf hvid).trans hv)]
    rfl

end Sys2Proof.Machine
end

section
/-!
PROOFS. One iteration of the readiness poller, from the answer of its status read and of its flag status read
(42_readiness_poller.md rules R180 to R184; 46_sequencer.md rule R288): O43, O44.
-/

namespace Sys2Proof.Machine

open Sys2Proof

@[simp] theorem State.sent_dev_useFsr (s : State) (i : Instr) : (s.sent i).dev.useFsr = s.dev.useFsr :=
  s.exchange_dev_useFsr i

/-! ## The ready bits -/

theorem srReady_iff {c : Config} {sr : Byte} : srReady c sr = true ↔ sr &&& c.srWip = 0 := beq_iff_eq

theorem fsrIsReady_iff {c : Config} {fsr : Byte} : fsrIsReady c fsr = true ↔ fsr &&& c.fsrReady ≠ 0 := bne_iff_ne

/-! ## The elapsed time -/

/-- An exchange takes no clock sample and leaves the entry sample (42_readiness_poller.md rule R180). -/
@[simp] theorem State.sent_elapsed (s : State) (i : Instr) : (s.sent i).elapsed = s.elapsed := by
  simp only [State.elapsed, State.sent, State.exchange_now, State.exchange_q]

@[simp] theorem State.setSrOld_elapsed (s : State) (b : Byte) : (s.setSrOld b).elapsed = s.elapsed := rfl
@[simp] theorem State.setReg_elapsed (s : State) (b : Byte) : (s.setReg b).elapsed = s.elapsed := rfl

/-! ## The decision, by its outcome -/

section

variable {s : State} {ready : Bool}

/-- Success is tested first: no clock sample, and no deadline (42_readiness_poller.md rule R184). -/
theorem State.decideReady_of_ready (h : ready = true) : s.decideReady ready = s.cont := if_pos h

/-- The deadline itself counts as passed (42_readiness_poller.md rule R184). -/
theorem State.decideReady_of_expired (h : ¬ ready = true) (ht : s.q.tmo.toNat ≤ s.elapsed) :
    s.decideReady ready = s.afterSample.failPoll .timeout := (if_neg h).trans (if_pos ht)

theorem State.decideReady_of_pending (h : ¬ ready = true) (ht : s.elapsed < s.q.tmo.toNat) :
    s.decideReady ready = s.afterSample.setFsm .plRdsr := (if_neg h).trans (if_neg (Nat.not_le.2 ht))

end

/-! ## The status read -/

section

variable {s : State} {b : Byte}

/-- In `S_PL_RDSR` the frame is its exchange, and the status byte goes to the poller (46_sequencer.md rule R288). -/
theorem exec_rdsr_of_plRdsr (hf : s.q.fsm = .plRdsr) (hb : s.reply .rdsr = .ok [b]) :
    exec .rdsr s = .next ((s.sent .rdsr).pollStatus [b]) := by
  have hsent : (s.exchange .rdsr).2.q.fsm = .plRdsr := by rw [s.exchange_q, hf]
  have hok : (s.exchange .rdsr).1 = .ok [b] := hb
  have hfull : answerFailure 1 (.ok [b]) = none := rfl
  simp only [exec, execRdsr, hsent, hok, State.resume_ok hfull, answerBytes, State.sent]

/-- With a flag status register the iteration goes on to its second read (42_readiness_poller.md rule R183). -/
theorem State.pollStatus_of_useFsr (h : s.dev.useFsr = true) :
    s.pollStatus [b] = (s.setSrOld b).setFsm .plRdfsr := if_pos h

/-- Without one the status byte decides (42_readiness_poller.md rule R183). -/
theorem State.pollStatus_of_noFsr (h : s.dev.useFsr = false) :
    s.pollStatus [b] = (s.setSrOld b).decideReady (srReady s.cfg b) := if_neg (ne_true_of_eq_false h)

end

/-- Settles O43, by the flag and, without a flag status register, by the decision's outcome. -/
theorem rdsrPolls : Obligations.RdsrPolls := by
  intro s b hf hb u
  have hu : u = (s.sent .rdsr).setSrOld b := by
    simp only [u, State.setSrOld, State.sent_q]
  have hready : srReady (s.sent .rdsr).cfg b = true ↔ b &&& s.cfg.srWip = 0 := by rw [State.sent_cfg, srReady_iff]
  have htime : u.elapsed = s.elapsed := by rw [hu, State.setSrOld_elapsed, State.sent_elapsed]
  have hdecide (hfsr : s.dev.useFsr = false) :
      (s.sent .rdsr).pollStatus [b] = u.decideReady (srReady (s.sent .rdsr).cfg b) := by
    rw [State.pollStatus_of_noFsr ((s.sent_dev_useFsr .rdsr).trans hfsr), hu]
  rw [exec_rdsr_of_plRdsr hf hb]
  refine ⟨fun hfsr => ?flag, fun hfsr hclear => ?ready, fun hfsr hset ht => ?expired, fun hfsr hset ht => ?pending⟩
  case flag =>
    rw [State.pollStatus_of_useFsr ((s.sent_dev_useFsr .rdsr).trans hfsr), ← hu]
    rfl
  case ready => rw [hdecide hfsr, State.decideReady_of_ready (hready.2 hclear)]
  case expired => rw [hdecide hfsr, State.decideReady_of_expired (s := u) (mt hready.1 hset) (ht.trans_eq htime.symm)]
  case pending =>
    rw [hdecide hfsr, State.decideReady_of_pending (s := u) (mt hready.1 hset) (htime.trans_lt ht)]
    rfl

/-! ## The flag status read -/

/-- In `S_PL_RDFSR` the frame is its exchange, and both register bytes decide (42_readiness_poller.md rule R183;
46_sequencer.md rule R288). -/
theorem exec_rdfsr_of_plRdfsr {s : State} {b : Byte} (hf : s.q.fsm = .plRdfsr) (hb : s.reply .rdfsr = .ok [b]) :
    exec .rdfsr s = .next (((s.sent .rdfsr).setReg b).decideReady
      (srReady s.cfg s.q.srOld && fsrIsReady s.cfg b)) := by
  have hsent : (s.exchange .rdfsr).2.q.fsm = .plRdfsr := by rw [s.exchange_q, hf]
  have hok : (s.exchange .rdfsr).1 = .ok [b] := hb
  have hfull : answerFailure 1 (.ok [b]) = none := rfl
  have hexec : exec .rdfsr s = .next ((s.sent .rdfsr).pollFlagStatus [b]) := by
    simp only [exec, execRdfsr, hsent, hok, State.resume_ok hfull, answerBytes, State.sent]
  rw [hexec, ← s.sent_cfg .rdfsr, ← s.sent_q .rdfsr]
  rfl

/-- Settles O44, by the decision's outcome. -/
theorem rdfsrPolls : Obligations.RdfsrPolls := by
  intro s b hf hb u ready
  have hu : u = (s.sent .rdfsr).setReg b := by
    simp only [u, State.setReg, State.sent_q]
  have hready : (srReady s.cfg s.q.srOld && fsrIsReady s.cfg b) = true ↔ ready := by
    rw [Bool.and_eq_true, srReady_iff, fsrIsReady_iff]
  have htime : u.elapsed = s.elapsed := by rw [hu, State.setReg_elapsed, State.sent_elapsed]
  rw [exec_rdfsr_of_plRdfsr hf hb, ← hu]
  refine ⟨fun h => ?ready, fun h ht => ?expired, fun h ht => ?pending⟩
  case ready => rw [State.decideReady_of_ready (hready.2 h)]
  case expired => rw [State.decideReady_of_expired (s := u) (mt hready.1 h) (ht.trans_eq htime.symm)]
  case pending =>
    rw [State.decideReady_of_pending (s := u) (mt hready.1 h) (htime.trans_lt ht)]
    rfl

end Sys2Proof.Machine
end

section
/-!
PROOFS. The acceptance steps of READ, WRITE and ERASE of a range inside the device (43_program_erase_read.md rules R191, R194,
R208, R209), with the lock query's three wirings (44_protection_codec.md rule R236): O26, O31, O32, O33; and a few words
written out from the encodings: O1.
-/

namespace Sys2Proof.Machine

open Sys2Proof

/-- Settles O1: the opcode table's words, the record's bytes and the three frames, each read by running its decoder. -/
theorem wordsDecodeAsWritten : Obligations.WordsDecodeAsWritten := by
  refine ⟨?identify, ?reprobe, ?rdid, ?rdfsr, ?record, ?readFast, ?pp, ?se⟩
  case identify | reprobe | rdid | rdfsr => decide
  case record => decide
  case readFast | pp | se => decide

/-! ## Behind the common head -/

/-- A range inside an identified device, loaded by a command's record, is what `Precheck()` asks for (60_exceptions.md
rule R315). -/
theorem State.load_rangeOk {s : State} {off len : Word64} (code : Byte) (hid : s.dev.identified = true) (hlen : len ≠ 0)
    (hrange : off.toNat + len.toNat ≤ s.dev.capacity.toNat) : (s.load code off len).rangeOk :=
  ⟨hid, Nat.pos_of_ne_zero fun h0 => hlen (BitVec.eq_of_toNat_eq h0), hrange⟩

theorem State.withPrecheck_of_rangeOk {s : State} (hr : s.rangeOk) (k : State → State) : s.withPrecheck k = k s := by
  rw [State.withPrecheck, State.precheck_of_rangeOk hr]

section

variable {s : State} {off len : Word64} (hf : s.q.fsm = .idle)

include hf

/-- READ behind `Precheck()` (43_program_erase_read.md rule R192). -/
theorem exec_read_of_rangeOk (hr : (s.load 0x02 off len).rangeOk) :
    exec (.read off len) s =
      .next ((s.load 0x02 off len).setFsm (if s.dev.window then .rdWin else .rdXfer)) := by
  rw [exec, execRead, State.whenIdle_of_idle hf]
  dsimp only
  rw [State.precheck_of_rangeOk hr]
  rfl

/-- WRITE behind `Precheck()` (43_program_erase_read.md rule R194). -/
theorem exec_write_of_rangeOk (buf : List Byte) (hr : (s.load 0x03 off len).rangeOk) :
    exec (.write off len buf) s = .next ((s.holdBuffer buf).load 0x03 off len).lqHead := by
  rw [exec, execWrite, State.whenIdle_of_idle hf,
    State.withPrecheck_of_rangeOk (s := (s.load 0x03 off len).holdBuffer buf) hr]
  rfl

/-- ERASE behind `Precheck()`: whole units go to the lock query, a partial unit is refused (43_program_erase_read.md rules
R208, R209). -/
theorem exec_erase_of_rangeOk (hr : (s.load 0x04 off len).rangeOk) :
    exec (.erase off len) s =
      .next (if len.toNat % s.dev.eraseSize.toNat = 0 then (s.load 0x04 off len).lqHead
        else (s.load 0x04 off len).endOutside .invalidArgument) := by
  rw [exec, execErase, State.whenIdle_of_idle hf, State.withPrecheck_of_rangeOk hr]
  rfl

end

/-- Settles O31. -/
theorem readAccepted : Obligations.ReadAccepted := by
  intro s off len hf hid hlen hrange
  rw [exec_read_of_rangeOk hf (State.load_rangeOk 0x02 hid hlen hrange)]
  rfl

/-- Settles O26: the partial unit is found before `LQHead()`. -/
theorem partialUnitEraseRefused : Obligations.PartialUnitEraseRefused := by
  intro s off len hf hid hlen hrange hpartial
  rw [exec_erase_of_rangeOk hf (State.load_rangeOk 0x04 hid hlen hrange), if_neg hpartial,
    State.endOutside_of_error _ (st := .invalidArgument) nofun nofun]
  rfl

/-! ## The lock query

Each lemma speaks of a state `s` and the record's operands loaded into it. -/

section

variable {s : State} (code : Byte) (off len : Word64)

/-- Under `CODEC` with protection bits the chip is asked (44_protection_codec.md rule R236). -/
theorem State.lqHead_load_codec (hc : s.cfg.lockQuery = .codec) (hv : s.dev.protVariant = .bp) :
    (s.load code off len).lqHead = (s.load code off len).setFsm .lqRdsr := by
  simp only [State.lqHead, State.load_cfg, State.load_dev, hc, hv]

/-- With no lock policy in force nobody is asked (44_protection_codec.md rule R236). -/
theorem State.lqHead_load_noPolicy
    (h : s.cfg.lockQuery = .absent ∨ (s.cfg.lockQuery = .codec ∧ s.dev.protVariant = .none)) :
    (s.load code off len).lqHead = (s.load code off len).afterLQ none := by
  rcases h with hc | ⟨hc, hv⟩
  · simp only [State.lqHead, State.load_cfg, hc]
  · simp only [State.lqHead, State.load_cfg, State.load_dev, hc, hv]

/-- The collaborator's next answer: the next of the list, or a free value (log entry 2). -/
theorem State.externalLock_eq (s : State) :
    s.externalLock = s.env.lockAnswers.head?.getD (Config.lockAnswer s.env.nLock s.q.off s.q.len) := by
  unfold State.externalLock
  cases s.env.lockAnswers <;> rfl

/-- Any answer but "locked" starts the loop (46_sequencer.md rule R279). -/
theorem State.afterLQ_of_unlocked (s : State) {a : Option Bool} (ha : a ≠ some true) : s.afterLQ a = s.afterLQ none := by
  simp only [State.afterLQ, ha, if_false, reduceCtorEq]

/-- Under `EXTERNAL` the collaborator decides (44_protection_codec.md rule R236). -/
theorem State.lqHead_load_external (hc : s.cfg.lockQuery = .external) :
    (s.load code off len).lqHead =
      if s.env.lockAnswers.head?.getD (Config.lockAnswer s.env.nLock off len) = some true then
        (s.afterLockAnswer.load code off len).endOutside .locked
      else (s.afterLockAnswer.load code off len).afterLQ none := by
  have hask : (s.load code off len).lqHead =
      (s.afterLockAnswer.load code off len).afterLQ (s.load code off len).externalLock := by
    simp only [State.lqHead, State.load_cfg, hc]
    rfl
  rw [hask, State.externalLock_eq]
  split
  · rename_i ha
    exact if_pos ha
  · rename_i ha
    exact State.afterLQ_of_unlocked _ ha

/-- Byte mode before its write-enable (46_sequencer.md rule R279). -/
theorem State.afterLQ_byte {s : State} (hop : s.q.op = 0x03) (hv : s.dev.progVariant = .byte) :
    s.afterLQ none = ((s.setCursor s.q.off 0).setErr .ok).setFsm .bwWren := by
  simp [State.afterLQ, hop, hv]

/-- The erase loop at its first unit (46_sequencer.md rule R279). -/
theorem State.afterLQ_erase {s : State} (hop : s.q.op = 0x04) :
    s.afterLQ none = (((s.setCursor s.q.off 0).setChunk s.dev.eraseSize).setErr .ok).setFsm .erWren := by
  simp [State.afterLQ, hop]

/-- The loop of a WRITE at its start (46_sequencer.md rule R279). -/
theorem State.afterLQ_load_write (s : State) :
    (s.load 0x03 off len).afterLQ none = { s with q := s.writeStart off len } := by
  cases hv : s.dev.progVariant with
  | page =>
    simp only [State.writeStart, hv]
    exact State.afterLQ_page (s := s.load 0x03 off len) rfl hv nofun
  | byte =>
    simp only [State.writeStart, hv]
    exact State.afterLQ_byte (s := s.load 0x03 off len) rfl hv

/-- The loop of an ERASE at its start (46_sequencer.md rule R279). -/
theorem State.afterLQ_load_erase (s : State) :
    (s.load 0x04 off len).afterLQ none = { s with q := s.eraseStart off len } :=
  State.afterLQ_erase (s := s.load 0x04 off len) rfl

end

/-- Settles O32, by the lock query's wiring. -/
theorem writeAccepted : Obligations.WriteAccepted := by
  intro s off len buf hf hid hlen hrange
  rw [exec_write_of_rangeOk hf buf (State.load_rangeOk 0x03 hid hlen hrange)]
  refine ⟨fun hc hv => ?codec, fun hnone => ?noPolicy, fun hc => ?external⟩
  case codec =>
    rw [State.lqHead_load_codec (s := s.holdBuffer buf) _ _ _ hc hv]
    rfl
  case noPolicy =>
    rw [State.lqHead_load_noPolicy (s := s.holdBuffer buf) _ _ _ hnone, State.afterLQ_load_write]
    rfl
  case external =>
    rw [State.lqHead_load_external (s := s.holdBuffer buf) _ _ _ hc,
      State.endOutside_of_error _ (st := .locked) nofun nofun, State.afterLQ_load_write]
    rfl

/-- Settles O33, by the lock query's wiring. -/
theorem eraseAccepted : Obligations.EraseAccepted := by
  intro s off len hf hid hlen hrange hwhole
  rw [exec_erase_of_rangeOk hf (State.load_rangeOk 0x04 hid hlen hrange), if_pos hwhole]
  refine ⟨fun hc hv => ?codec, fun hnone => ?noPolicy, fun hc => ?external⟩
  case codec =>
    rw [State.lqHead_load_codec _ _ _ hc hv]
    rfl
  case noPolicy => rw [State.lqHead_load_noPolicy _ _ _ hnone, State.afterLQ_load_erase]
  case external =>
    rw [State.lqHead_load_external _ _ _ hc, State.endOutside_of_error _ (st := .locked) nofun nofun,
      State.afterLQ_load_erase]
    rfl

end Sys2Proof.Machine
end

section
/-!
PROOFS. The frames of the array, answered and failed (43_program_erase_read.md rules R191 to R193, R196, R204, R208), and the
exchanges outside the loops that fail (60_exceptions.md rules R311, R321): O50, O51, O52.
-/

namespace Sys2Proof

/-- `i` reads `n` bytes of the array from `addr` on, under one of the five read symbols (43_program_erase_read.md rules
R192, R193). -/
abbrev Instr.IsArrayRead (i : Instr) (addr n : Word64) : Prop :=
  i = .readFrame addr n ∨ i = .readFast addr n ∨ i = .readDual addr n ∨ i = .readQuad addr n ∨ i = .readQuadIo addr n

end Sys2Proof

namespace Sys2Proof.Machine

open Sys2Proof

/-! ## Answers in full, and answers that fail -/

/-- An exchange that receives all it asked for goes on (20_memory.md rule R65). -/
theorem answerFailure_ok_of_le {n : Nat} {rx : List Byte} (h : n ≤ rx.length) : answerFailure n (.ok rx) = none :=
  if_neg (Nat.not_lt.2 h)

/-- An exchange that was to receive `n` bytes fails with the transport's cause, or short (20_memory.md rule R65). -/
theorem answerFailure_of_failed {a : Answer} {n : Nat} {cause : Cause}
    (h : (∃ c, a = .err c ∧ cause = .transport c) ∨ ∃ rx, a = .ok rx ∧ rx.length < n ∧ cause = .short) :
    answerFailure n a = some cause := by
  rcases h with ⟨c, rfl, rfl⟩ | ⟨rx, rfl, hshort, rfl⟩
  · rfl
  · exact if_pos hshort

/-! ## The five array reads -/

/-- In `S_RD_XFER` the frame is its exchange, and the answer decides; the five symbols do not differ (46_sequencer.md rule
R283). -/
theorem exec_arrayRead {s : State} {i : Instr} {addr n : Word64} (hi : i.IsArrayRead addr n) (hf : s.q.fsm = .rdXfer) :
    exec i s = .next ((s.sent i).resume (s.reply i) n.toNat State.readFailed State.readDelivered) := by
  have hafter : (s.sent i).afterArrayRead (s.reply i) n =
      (s.sent i).resume (s.reply i) n.toNat State.readFailed State.readDelivered := by
    simp only [State.afterArrayRead, State.sent_q, hf]
  rw [← hafter]
  rcases hi with rfl | rfl | rfl | rfl | rfl <;> rfl

/-- Settles O50: an answer in full is delivered. -/
theorem arrayReadsDeliver : Obligations.ArrayReadsDeliver := by
  intro s i addr n rx hi hf hrx hlen
  rw [exec_arrayRead hi hf, hrx, State.resume_ok (answerFailure_ok_of_le hlen), State.readDelivered, State.endOk_eq,
    ← s.sent_q i, ← s.sent_rsp i]
  rfl

/-! ## The frames that call the poller -/

/-- The call behind an exchange: `q` and the samples are those before it (46_sequencer.md rule R281). -/
theorem State.sent_callPoller (s : State) (i : Instr) (t : Nat) (l : PollLabel) :
    (s.sent i).callPoller t l = { (s.sent i).afterSample with
      q := { s.q with t0 := s.entryWord, tmo := s.timeoutWord t, ret := l, fsm := .plRdsr } } := by
  have hentry : (s.sent i).entryWord = s.entryWord := s.exchange_entryWord i
  have htimeout : (s.sent i).timeoutWord t = s.timeoutWord t := s.exchange_timeoutWord i t
  rw [State.callPoller_eq, hentry, htimeout, State.sent_q]

/-- An exchange that receives nothing goes on, whatever came back (46_sequencer.md section 2). -/
theorem State.resume_silent (s : State) {a : Answer} {rx : List Byte} (ha : a = .ok rx) (f : State → State)
    (k : List Byte → State → State) : s.resume a 0 f k = k rx s := by
  rw [ha, State.resume_ok (answerFailure_zero_ok rx), answerBytes]

section

variable {s : State} {i : Instr} {addr : Word64} {data rx : List Byte} (hrx : s.reply i = .ok rx)

include hrx

/-- `S_WR_PROG` on Ok (46_sequencer.md rule R284). -/
theorem exec_pageProgram_ok (hi : i = .pp addr data ∨ i = .ppQuad addr data) (hf : s.q.fsm = .wrProg) :
    exec i s = .next ((s.sent i).callPoller s.cfg.tProg .wrPoll) := by
  have hafter : (s.sent i).afterPageProgram (s.reply i) = (s.sent i).callPoller s.cfg.tProg .wrPoll := by
    simp only [State.afterPageProgram, State.sent_q, hf, State.resume_silent _ hrx, State.sent_cfg]
  rw [← hafter]
  rcases hi with rfl | rfl <;> rfl

/-- `S_BW_PROG` on Ok (46_sequencer.md rule R285). -/
theorem exec_unitProgram_ok (hi : i = .bp addr data ∨ i = .aaiWp addr data) (hf : s.q.fsm = .bwProg) :
    exec i s = .next ((s.sent i).callPoller s.cfg.tProg .bwPoll) := by
  have hafter : (s.sent i).afterUnitProgram (s.reply i) = (s.sent i).callPoller s.cfg.tProg .bwPoll := by
    simp only [State.afterUnitProgram, State.sent_q, hf, State.resume_silent _ hrx, State.sent_cfg]
  rw [← hafter]
  rcases hi with rfl | rfl <;> rfl

/-- `S_ER_ERASE` on Ok (46_sequencer.md rule R286). -/
theorem exec_eraseFrame_ok (hi : i = .se addr ∨ i = .be4k addr) (hf : s.q.fsm = .erErase) :
    exec i s = .next ((s.sent i).callPoller s.cfg.tErase .erPoll) := by
  have hafter : (s.sent i).afterEraseFrame (s.reply i) = (s.sent i).callPoller s.cfg.tErase .erPoll := by
    simp only [State.afterEraseFrame, State.sent_q, hf, State.resume_silent _ hrx, State.sent_cfg]
  rw [← hafter]
  rcases hi with rfl | rfl <;> rfl

/-- `S_QN_WR` on Ok (46_sequencer.md rule R282). -/
theorem exec_wrvr_ok {op : Byte} (hi : i = .wrvr op data) (hf : s.q.fsm = .qnWr) :
    exec i s = .next ((s.sent i).callPoller s.cfg.tQuad .qnPoll) := by
  subst hi
  simp only [exec, execWrvr, State.exchange_q, hf, State.resume_silent _ (a := (s.exchange (.wrvr op data)).1) hrx,
    State.exchange_cfg, State.sent]

end

/-- Settles O51: each of the four rows calls the poller, and the call writes what its law says. -/
theorem framesCallPoller : Obligations.FramesCallPoller := by
  intro s i addr data op rx hrx u
  refine ⟨fun hf hi => ?page, fun hf hi => ?unit, fun hf hi => ?erase, fun hf hi => ?quad, fun h => keptWord_of_lt h,
    fun t h => keptWord_of_lt h⟩
  case page => rw [exec_pageProgram_ok hrx hi hf, State.sent_callPoller]
  case unit => rw [exec_unitProgram_ok hrx hi hf, State.sent_callPoller]
  case erase => rw [exec_eraseFrame_ok hrx hi hf, State.sent_callPoller]
  case quad => rw [exec_wrvr_ok hrx hi hf, State.sent_callPoller]

/-! ## The exchanges that fail -/

section

variable {s : State} {cause : Cause}

/-- `End(TransportError, 0)` behind the exchange of `i` (46_sequencer.md rule R280). -/
theorem State.sent_transportFailed (s : State) (i : Instr) (cause : Cause) :
    ((s.sent i).setCause cause).transportFailed =
      { s.sent i with q := { s.q with cause := cause, fsm := .idle }
                      rsp := s.rsp.transportError cause 0 s.q.off s.q.len } := by
  rw [← s.sent_q i, ← s.sent_rsp i]
  rfl

/-- The status reads outside the loops (46_sequencer.md rules R282, R283, R287). -/
theorem exec_rdsr_failed (hfail : answerFailure 1 (s.reply .rdsr) = some cause)
    (hf : s.q.fsm = .qnRdsr ∨ s.q.fsm = .lqRdsr ∨ s.q.fsm = .lkRdsr ∨ s.q.fsm = .ulRdsr ∨ s.q.fsm = .ilRdsr) :
    exec .rdsr s = .next ((s.sent .rdsr).setCause cause).transportFailed := by
  rcases hf with hf | hf | hf | hf | hf <;>
    simp only [exec, execRdsr, State.exchange_q, hf, State.resume_err (a := (s.exchange .rdsr).1) hfail, State.sent]

/-- The vendor reads of a negotiation whose vendor has a procedure (46_sequencer.md rule R282). -/
theorem exec_rdvr_failed {op : Byte} {v : QuadProc} (hfail : answerFailure 1 (s.reply (.rdvr op)) = some cause)
    (hv : s.quadProc = some v) (hf : s.q.fsm = .qnRd1 ∨ s.q.fsm = .qnRd2) :
    exec (.rdvr op) s = .next ((s.sent (.rdvr op)).setCause cause).transportFailed := by
  have hv' : (s.exchange (.rdvr op)).2.quadProc = some v := by
    simpa only [State.quadProc, State.exchange_q, State.exchange_cfg] using hv
  rcases hf with hf | hf <;>
    simp only [exec, execRdvr, hv', State.exchange_q, hf, State.resume_err (a := (s.exchange (.rdvr op)).1) hfail,
      State.sent]

/-- The write-enables outside the loops (46_sequencer.md rules R282, R287). -/
theorem exec_wren_failed (hfail : answerFailure 0 (s.reply .wren) = some cause)
    (hf : s.q.fsm = .qnWren ∨ s.q.fsm = .lkWren ∨ s.q.fsm = .ulWren) :
    exec .wren s = .next ((s.sent .wren).setCause cause).transportFailed := by
  rcases hf with hf | hf | hf <;>
    simp only [exec, execWren, State.exchange_q, hf, State.resume_err (a := (s.exchange .wren).1) hfail, State.sent]

/-- The status writes of the codec (46_sequencer.md rule R287). -/
theorem exec_wrsr_failed {p : List Byte} (hfail : answerFailure 0 (s.reply (.wrsr p)) = some cause)
    (hf : s.q.fsm = .lkWrsr ∨ s.q.fsm = .ulWrsr) :
    exec (.wrsr p) s = .next ((s.sent (.wrsr p)).setCause cause).transportFailed := by
  rcases hf with hf | hf <;>
    simp only [exec, execWrsr, State.exchange_q, hf, State.resume_err (a := (s.exchange (.wrsr p)).1) hfail, State.sent]

/-- The negotiation's write (46_sequencer.md rule R282). -/
theorem exec_wrvr_failed {op : Byte} {p : List Byte} (hfail : answerFailure 0 (s.reply (.wrvr op p)) = some cause)
    (hf : s.q.fsm = .qnWr) :
    exec (.wrvr op p) s = .next ((s.sent (.wrvr op p)).setCause cause).transportFailed := by
  simp only [exec, execWrvr, State.exchange_q, hf, State.resume_err (a := (s.exchange (.wrvr op p)).1) hfail, State.sent]

/-- A failed array read also leaves its buffer a free value (43_program_erase_read.md rule R191). -/
theorem State.sent_readFailed (s : State) (i : Instr) (cause : Cause) :
    ((s.sent i).setCause cause).readFailed =
      { ((s.sent i).setCause cause).transportFailed with
        rsp := { s.rsp.transportError cause 0 s.q.off s.q.len with rbuf := Config.failedReadBuf s.env.nFailedRead }
        env := { (s.sent i).env with nFailedRead := s.env.nFailedRead + 1 } } := by
  have hcount : (s.sent i).env.nFailedRead = s.env.nFailedRead := s.exchange_env_nFailedRead i
  rw [← s.sent_q i, ← s.sent_rsp i, ← hcount]
  rfl

end

/-- Settles O52: every "on Err" column outside the loops is the one end, and an array read's spoils its buffer besides. -/
theorem failuresOutsideLoops : Obligations.FailuresOutsideLoops := by
  intro s i cause ended
  refine ⟨fun hfail => ?receiving, fun c hc hcause => ?silent, fun addr n hi hf hfail => ?read⟩
  case receiving =>
    have hfails : answerFailure 1 (s.reply i) = some cause := answerFailure_of_failed (by simpa using hfail)
    constructor
    · rintro rfl hf
      rw [exec_rdsr_failed hfails hf, State.sent_transportFailed]
    · rintro op v rfl hv hf
      rw [exec_rdvr_failed hfails hv hf, State.sent_transportFailed]
  case silent =>
    have hfails : answerFailure 0 (s.reply i) = some cause := answerFailure_of_failed (.inl ⟨c, hc, hcause⟩)
    refine ⟨?_, ?_, ?_⟩
    · rintro rfl hf
      rw [exec_wren_failed hfails hf, State.sent_transportFailed]
    · rintro p rfl hf
      rw [exec_wrsr_failed hfails hf, State.sent_transportFailed]
    · rintro op p rfl hf
      rw [exec_wrvr_failed hfails hf, State.sent_transportFailed]
  case read =>
    rw [exec_arrayRead hi hf, State.resume_err (answerFailure_of_failed hfail), State.sent_readFailed,
      State.sent_transportFailed]

end Sys2Proof.Machine
end

section
/-!
PROOFS. Where the program frames of the page loop stand in the request (O22), and what READ delivers behind the chip `WB`
(O58).
-/

namespace Sys2Proof.Machine

open Sys2Proof

/-! ## The program frame -/

/-- Only `S_WR_PROG` issues a page program frame, with the cursor and the chunk's bytes (46_sequencer.md rule R284). -/
theorem State.fetchFrame_page {s : State} {i : Instr} {addr : Word64} {data : List Byte} (hfetch : s.fetchFrame = some i)
    (hi : i = .pp addr data ∨ i = .ppQuad addr data) : s.q.fsm = .wrProg ∧ addr = s.q.cur ∧ data = s.chunkData := by
  unfold State.fetchFrame at hfetch
  cases hf : s.q.fsm <;> rw [hf] at hfetch
  case wrProg =>
    cases hfetch
    unfold State.pageFrameInstr at hi
    split at hi <;> rcases hi with hi | hi <;> cases hi <;> exact ⟨rfl, rfl, rfl⟩
  case rdXfer =>
    cases hfetch
    unfold State.readFrameInstr at hi
    split at hi <;> simp at hi
  case bwProg =>
    cases hfetch
    unfold State.unitFrameInstr at hi
    split at hi <;> simp at hi
  case erErase =>
    cases hfetch
    unfold State.eraseFrameInstr at hi
    split at hi <;> simp at hi
  case qnRd1 | qnWr | qnRd2 =>
    obtain ⟨v, -, rfl⟩ := Option.map_eq_some_iff.1 hfetch
    simp at hi
  case idle | rdWin => cases hfetch
  all_goals
    cases hfetch
    simp at hi

/-- Settles O22: the clauses of the page loop's invariant, read at the frame the loop issues. -/
theorem programFrameWithinPage : Obligations.ProgramFrameWithinPage := by
  intro s addr data hinv hfetch
  obtain ⟨hf, rfl, rfl⟩ : s.q.fsm = .wrProg ∧ addr = s.q.cur ∧ data = s.chunkData :=
    hfetch.elim (State.fetchFrame_page · (.inl rfl)) (State.fetchFrame_page · (.inr rfl))
  obtain ⟨⟨-, -, hbuf⟩, hcursor, hpage, hmax⟩ := hinv.pageLoop (by simp [State.inPageLoop, hf])
  obtain ⟨hcur, hpos, hpart⟩ := id hcursor
  have hdone : s.q.cur.toNat - s.q.off.toNat = s.q.doneBytes.toNat := by omega
  rw [State.chunkData_length hbuf hcursor, hdone]
  exact ⟨hpage, hpos, by omega, by omega, rfl, hmax⟩

/-! ## READ behind the chip -/

/-- The record of a READ decodes to it (30_encoding.md rules R91, R92). -/
theorem decodeRecord_read (off len : Word64) : decodeRecord (commandRecord 0x02 off len []) = .ok (.read off len) := by
  have hcode := Laws.OneInterface.commandRecord_code 0x02 off len []
  simp only [decodeRecord, hcode]
  rfl

section

variable {s : State}

/-- The frame of `S_RD_XFER` reads the command's range (46_sequencer.md rule R283). -/
theorem State.readFrameInstr_isArrayRead (s : State) : s.readFrameInstr.IsArrayRead s.q.off s.q.len := by
  unfold State.readFrameInstr Instr.IsArrayRead
  cases s.dev.readOpcode <;> simp

/-- It asks for `len` bytes (43_program_erase_read.md rule R192). -/
theorem State.encodeFrame_readFrameInstr (s : State) :
    ∃ x, encodeFrame s.cfg s.geom s.readFrameInstr = some x ∧ x.rxn = some s.q.len.toNat := by
  unfold State.readFrameInstr
  split <;> exact ⟨_, rfl, rfl⟩

/-- `WB` answers four of the five read symbols alike (95_test_vectors.md section 5). -/
theorem Chip.answer_readFrameInstr (ch : Chip) (c : Config) (h : s.dev.readOpcode ≠ .readQuadIo) :
    ch.answer c s.readFrameInstr = ch.readArray s.q.off s.q.len := by
  unfold State.readFrameInstr
  cases hop : s.dev.readOpcode
  case readQuadIo => exact absurd hop h
  all_goals rfl

/-- A read changes nothing of the chip (20_memory.md rule R66). -/
theorem Chip.after_readFrameInstr (ch : Chip) (c : Config) (s : State) : ch.after c s.readFrameInstr = ch := by
  unfold State.readFrameInstr
  split <;> rfl

/-- In `S_RD_XFER` behind the chip, with the range inside its array: the frame brings the range's bytes, and the chip is as
before (95_test_vectors.md section 5). -/
theorem State.exchange_readFrameInstr {ch : Chip} (hch : s.env.transport = .wellBehaved ch)
    (hop : s.dev.readOpcode ≠ .readQuadIo) (hrange : s.q.off.toNat + s.q.len.toNat ≤ ch.desc.capacity) :
    s.reply s.readFrameInstr = .ok (ch.mem.readBytes s.q.off.toNat s.q.len.toNat)
      ∧ (s.sent s.readFrameInstr).env.transport = .wellBehaved ch := by
  obtain ⟨x, hx, hrxn⟩ := s.encodeFrame_readFrameInstr
  have ha : ch.answer s.cfg s.readFrameInstr = some (.ok (ch.mem.readBytes s.q.off.toNat s.q.len.toNat)) :=
    (ch.answer_readFrameInstr s.cfg hop).trans (if_pos hrange)
  constructor
  · have hfull : (ch.mem.readBytes s.q.off.toNat s.q.len.toNat).take s.q.len.toNat
        = ch.mem.readBytes s.q.off.toNat s.q.len.toNat := List.take_of_length_le (Memory.readBytes_length _ _ _).le
    rw [State.reply, State.exchange_chip_answer hch hx ha, hrxn, clipAnswer, Option.getD_some, hfull]
  · rw [State.sent, State.exchange_chip hch hx ha, Chip.after_readFrameInstr]

/-- The step of `S_RD_XFER` behind the chip delivers the range's bytes and ends the command (46_sequencer.md rule R283). -/
theorem step_of_rdXfer {ch : Chip} (hc : s.cfg.wf = true) (hr : s.env.resetLine = false) (hf : s.q.fsm = .rdXfer)
    (hch : s.env.transport = .wellBehaved ch) (hop : s.dev.readOpcode ≠ .readQuadIo)
    (hrange : s.q.off.toNat + s.q.len.toNat ≤ ch.desc.capacity) :
    ∃ t, step s = .next t ∧ t.q.fsm = .idle ∧ t.rsp.status = .ok ∧ t.rsp.count = s.q.len
      ∧ t.rsp.rbuf = ch.mem.readBytes s.q.off.toNat s.q.len.toNat ∧ t.env.transport = .wellBehaved ch := by
  obtain ⟨hreply, hsent⟩ := State.exchange_readFrameInstr hch hop hrange
  have hfetch : s.fetchFrame = some s.readFrameInstr := by simp only [State.fetchFrame, hf]
  have hexec := arrayReadsDeliver s _ _ _ _ s.readFrameInstr_isArrayRead hf hreply (Memory.readBytes_length _ _ _).ge
  exact ⟨_, (step_of_frame hc hr hfetch).trans hexec, rfl, rfl, rfl, rfl, hsent⟩

end

/-- A READ has passed its `Precheck()` and is about to issue its frame (46_sequencer.md rule R279). -/
def State.acceptedRead (s : State) (off len : Word64) : State := (s.takeRecord.load 0x02 off len).setFsm .rdXfer

/-- The acceptance step of a READ of a range inside the device, without a window (43_program_erase_read.md rule R192). -/
theorem step_of_read {s : State} {off len : Word64} {rest : List CommandRecord} (hc : s.cfg.wf = true)
    (hr : s.env.resetLine = false) (hf : s.q.fsm = .idle) (hwin : s.dev.window = false)
    (hport : s.env.port = commandRecord 0x02 off len [] :: rest)
    (hrange : (s.takeRecord.load 0x02 off len).rangeOk) : step s = .next (s.acceptedRead off len) := by
  rw [step_of_idle hc hr hf]
  simp only [stepIdle, hport, decodeRecord_read]
  rw [exec_read_of_rangeOk (s := s.takeRecord) hf hrange, State.takeRecord_dev, hwin]
  rfl

/-- Settles O58: the acceptance step, then the one frame, whose answer is delivered in full. -/
theorem readReturnsArray : Obligations.ReadReturnsArray := by
  intro s ch off len rest hc hr hf hid hwin hop hch hport hlen hrange hcap
  have haccept := step_of_read hc hr hf hwin hport (State.load_rangeOk (s := s.takeRecord) 0x02 hid hlen hrange)
  obtain ⟨t, hstep, hidle, hstatus, hcount, hrbuf, hsame⟩ := step_of_rdXfer (s := s.acceptedRead off len) hc hr rfl hch hop
    (hrange.trans_eq hcap)
  have hfirst : core.step s = .next (s.acceptedRead off len) := haccept
  have hsecond : core.step (s.acceptedRead off len) = .next t := hstep
  refine ⟨t, by simp only [Host.Core.run, hfirst, hsecond], hidle, hstatus, hcount, ?length, fun k hk => ?byte, hsame⟩
  case length =>
    rw [hrbuf]
    exact Memory.readBytes_length _ _ _
  case byte =>
    rw [hrbuf]
    exact Memory.readBytes_getElem? _ _ _ k hk

end Sys2Proof.Machine
end

section
/-!
PROOFS. The protection codec as arithmetic: the field of the status byte and the suffix it stands for
(44_protection_codec.md rules R230 to R234), the size computations of LOCK and UNLOCK (rules R240 to R248): O54, O55, O56.
-/

namespace Sys2Proof.Machine

open Sys2Proof

/-! ## The field in its byte

Three bits wide, at a place of at most 5, the field is not cut off by the byte's end (00_scope.md rule R7). -/

section

variable {c : Config} (hc : c.wf = true)

include hc

theorem srBp_of_wf : c.srBpMask = 7#8 <<< c.srBpShift ∧ c.srBpShift ≤ 5 := by
  obtain ⟨-, -, -, hmask, hshift, -⟩ := c.wf_iff.1 hc
  exact ⟨hmask, hshift⟩

/-- The field is the three bits from its place on (30_encoding.md rule R107). -/
theorem protField_eq (sr : Byte) : protField c sr = (sr >>> c.srBpShift &&& 7#8).toNat := by
  obtain ⟨hmask, hshift⟩ := srBp_of_wf hc
  have hback : ∀ k ≤ 5, 7#8 <<< k >>> k = 7#8 := by decide
  rw [protField, hmask, BitVec.ushiftRight_and_distrib, hback _ hshift]

theorem protField_le (sr : Byte) : protField c sr ≤ 7 := by
  rw [protField_eq hc, BitVec.toNat_and]
  exact Nat.and_le_right

/-- A field of three bits fits between the mask's ends. -/
theorem field_and_mask {bp : Nat} (hbp : bp ≤ 7) :
    BitVec.ofNat 8 bp <<< c.srBpShift &&& c.srBpMask = BitVec.ofNat 8 bp <<< c.srBpShift := by
  obtain ⟨hmask, -⟩ := srBp_of_wf hc
  have hfits : ∀ n ≤ 7, BitVec.ofNat 8 n &&& 7#8 = BitVec.ofNat 8 n := by decide
  rw [hmask, ← BitVec.shiftLeft_and_distrib, hfits _ hbp]

/-- Reading the field after writing it (30_encoding.md rule R107). -/
theorem protField_withProtField (sr : Byte) {bp : Nat} (hbp : bp ≤ 7) : protField c (withProtField c sr bp) = bp := by
  obtain ⟨-, hshift⟩ := srBp_of_wf hc
  have hback : ∀ n ≤ 7, ∀ k ≤ 5, (BitVec.ofNat 8 n <<< k >>> k).toNat = n := by decide
  have hfield : withProtField c sr bp &&& c.srBpMask = BitVec.ofNat 8 bp <<< c.srBpShift := by
    rw [withProtField, BitVec.and_or_distrib_right, field_and_mask hc hbp, BitVec.and_assoc, BitVec.and_comm (~~~_),
      BitVec.and_not_self]
    simp
  rw [protField, hfield, hback bp hbp _ hshift]

/-- Writing the field leaves every other bit (30_encoding.md rule R107). -/
theorem withProtField_and_not_mask (sr : Byte) {bp : Nat} (hbp : bp ≤ 7) :
    withProtField c sr bp &&& ~~~c.srBpMask = sr &&& ~~~c.srBpMask := by
  rw [withProtField, BitVec.and_or_distrib_right, ← field_and_mask hc hbp, BitVec.and_assoc, BitVec.and_self,
    BitVec.and_assoc, BitVec.and_not_self]
  simp

end

/-! ## The suffix -/

/-- A larger shift leaves no more. -/
theorem shiftRight_le_of_le (cap : Nat) {p q : Nat} (h : p ≤ q) : cap >>> q ≤ cap >>> p := by
  rw [Nat.shiftRight_eq_div_pow, Nat.shiftRight_eq_div_pow]
  exact Nat.div_le_div_left (Nat.pow_le_pow_right (by decide) h) (Nat.two_pow_pos p)

/-- From 64 bytes on, each of the seven encodable suffixes is shorter than the next one. -/
theorem shiftRight_lt_of_lt {cap p q : Nat} (hcap : 64 ≤ cap) (hpq : p < q) (hp : p ≤ 5) : cap >>> q < cap >>> p := by
  have hpos : 0 < cap >>> p := by
    rw [Nat.shiftRight_eq_div_pow]
    exact Nat.div_pos ((Nat.pow_le_pow_right (by decide) hp).trans (by omega)) (Nat.two_pow_pos p)
  have hnext : cap >>> (p + 1) = cap >>> p / 2 := Nat.shiftRight_succ cap p
  have := shiftRight_le_of_le cap (show p + 1 ≤ q from hpq)
  omega

section

variable {c : Config} {cap : Nat} {sr : Byte}

/-- The sentinel protects nothing (44_protection_codec.md rule R232). -/
theorem lockLen_of_unprotected (h : protField c sr = 0) : lockLen c cap sr = 0 := if_pos h

/-- Any other field protects `cap >> (7 - bp)` bytes (44_protection_codec.md rule R232). -/
theorem lockLen_of_protected (h : 1 ≤ protField c sr) : lockLen c cap sr = cap >>> (7 - protField c sr) :=
  if_neg (Nat.pos_iff_ne_zero.1 h)

theorem protField_pos_of_lockLen_pos (h : 0 < lockLen c cap sr) : 1 ≤ protField c sr := by
  refine Nat.pos_of_ne_zero fun h0 => ?_
  rw [lockLen_of_unprotected h0] at h
  exact absurd h (Nat.lt_irrefl 0)

theorem lockLen_le (c : Config) (cap : Nat) (sr : Byte) : lockLen c cap sr ≤ cap := by
  rcases Nat.eq_zero_or_pos (protField c sr) with h | h
  · rw [lockLen_of_unprotected h]
    exact Nat.zero_le _
  · rw [lockLen_of_protected h]
    exact shiftRight_le_of_le cap (Nat.zero_le _)

/-- The protected region ends where the device ends (44_protection_codec.md rule R232). -/
theorem lockOff_add_lockLen (c : Config) (cap : Nat) (sr : Byte) : lockOff c cap sr + lockLen c cap sr = cap :=
  Nat.sub_add_cancel (lockLen_le c cap sr)

theorem lockLen_mono {sr' : Byte} (h : protField c sr ≤ protField c sr') : lockLen c cap sr ≤ lockLen c cap sr' := by
  rcases Nat.eq_zero_or_pos (protField c sr) with h0 | h0
  · rw [lockLen_of_unprotected h0]
    exact Nat.zero_le _
  · rw [lockLen_of_protected h0, lockLen_of_protected (Nat.le_trans h0 h)]
    exact shiftRight_le_of_le cap (by omega)

/-- The suffix lengths of two fields differ once each of the seven is a byte long at least: from 64 bytes on. -/
theorem lockLen_strictMono {sr' : Byte} (hcap : 64 ≤ cap) (h : protField c sr < protField c sr')
    (h7 : protField c sr' ≤ 7) : lockLen c cap sr < lockLen c cap sr' := by
  rw [lockLen_of_protected (sr := sr') (by omega)]
  rcases Nat.eq_zero_or_pos (protField c sr) with h0 | h0
  · rw [lockLen_of_unprotected h0]
    calc 0 < cap >>> 6 := by omega
      _ ≤ cap >>> (7 - protField c sr') := shiftRight_le_of_le cap (by omega)
  · rw [lockLen_of_protected h0]
    exact shiftRight_lt_of_lt hcap (by omega) (by omega)

/-- A range inside the device ends no later than the suffix, so only its start is to be looked at
(44_protection_codec.md rule R234). -/
theorem isLockedSr_iff {off n : Nat} (hn : 1 ≤ n) (h : off + n ≤ cap) :
    isLockedSr c cap sr off n = true ↔ 0 < lockLen c cap sr ∧ lockOff c cap sr ≤ off := by
  have hend := lockOff_add_lockLen c cap sr
  simp only [isLockedSr, Bool.and_eq_true, decide_eq_true_eq]
  omega

end

/-- Settles O54. -/
theorem suffixDecoding : Obligations.SuffixDecoding := by
  intro c hc cap sr
  refine ⟨?field, protField_le hc sr, ?length, lockOff_add_lockLen c cap sr, fun h7 => ?all, fun _ => lockLen_mono,
    fun sr' hcap h => lockLen_strictMono hcap h (protField_le hc sr'),
    fun bp hbp => ⟨protField_withProtField hc sr hbp, withProtField_and_not_mask hc sr hbp⟩,
    fun off n hn h => isLockedSr_iff hn h⟩
  case field => rw [protField, BitVec.toNat_ushiftRight, Nat.shiftRight_eq_div_pow]
  case length => rw [lockLen, Nat.shiftRight_eq_div_pow]
  case all =>
    rw [lockLen_of_protected (by omega), h7]
    rfl

/-! ## The bytes LOCK and UNLOCK write -/

section

variable {c : Config} {cap : Nat} {sr : Byte}

/-- The field `7 - pow` protects `cap >> pow` bytes (44_protection_codec.md rules R242, R247). -/
theorem lockLen_withProtField (hc : c.wf = true) (cap : Nat) (sr : Byte) {pow : Nat} (h : pow ≤ 6) :
    lockLen c cap (withProtField c sr (7 - pow)) = cap >>> pow := by
  have hfield : protField c (withProtField c sr (7 - pow)) = 7 - pow := protField_withProtField hc sr (by omega)
  rw [lockLen_of_protected (by omega), hfield, show 7 - (7 - pow) = pow by omega]

/-- Of the encodable suffixes of at most `eff` bytes the upward search finds the largest (44_protection_codec.md rule
R242). -/
theorem shiftRight_le_leastShift {eff p : Nat} (h : cap >>> p ≤ eff) : cap >>> p ≤ cap >>> leastShift cap eff :=
  shiftRight_le_of_le cap (leastShift_le h)

theorem lockLen_le_leastShift {eff : Nat} (h : lockLen c cap sr ≤ eff) :
    lockLen c cap sr ≤ cap >>> leastShift cap eff := by
  rcases Nat.eq_zero_or_pos (lockLen c cap sr) with h0 | h0
  · rw [h0]
    exact Nat.zero_le _
  · rw [lockLen_of_protected (protField_pos_of_lockLen_pos h0)] at h ⊢
    exact shiftRight_le_leastShift h

theorem leastShift_le_six_iff {eff : Nat} : leastShift cap eff ≤ 6 ↔ cap >>> 6 ≤ eff :=
  ⟨fun h => (shiftRight_le_of_le cap h).trans (shiftRight_leastShift (by omega)), leastShift_le⟩

/-- Of the encodable suffixes of at least `rem` bytes the downward search finds the smallest (44_protection_codec.md rule
R247). -/
theorem greatestShift_le_shiftRight {rem p : Nat} (hp : p ≤ 64) (h : rem ≤ cap >>> p) :
    cap >>> greatestShift cap rem ≤ cap >>> p :=
  shiftRight_le_of_le cap (le_greatestShift hp h)

theorem greatestShift_le_lockLen {rem : Nat} (hrem : 1 ≤ rem) (h : rem ≤ lockLen c cap sr) :
    cap >>> greatestShift cap rem ≤ lockLen c cap sr := by
  have hfield : 1 ≤ protField c sr := protField_pos_of_lockLen_pos (Nat.lt_of_lt_of_le hrem h)
  rw [lockLen_of_protected hfield] at h ⊢
  exact greatestShift_le_shiftRight (by omega) h

theorem six_lt_greatestShift_iff {rem : Nat} (hrem : rem ≤ cap) : 6 < greatestShift cap rem ↔ rem ≤ cap >>> 7 :=
  ⟨fun h => (le_shiftRight_greatestShift hrem).trans (shiftRight_le_of_le cap h), le_greatestShift (by decide)⟩

end

/-! ## LOCK -/

section

variable {c : Config} {cap off len : Nat} {old new : Byte}

/-- When LOCK answers a byte, and which (44_protection_codec.md rules R241 to R243). -/
theorem lockByte_eq_some (hc : c.wf = true) (h : lockByte c cap off len old = some new) :
    ∃ pow, pow = leastShift cap (cap - off) ∧ pow ≤ 6 ∧ new = withProtField c old (7 - pow)
      ∧ lockLen c cap new = cap >>> pow ∧ lockLen c cap old ≤ lockLen c cap new := by
  simp only [lockByte] at h
  split at h
  · cases h
  split at h
  · cases h
  rename_i hpow
  split at h
  · cases h
  rename_i hgrow
  cases h
  exact ⟨_, rfl, by omega, rfl, lockLen_withProtField hc cap old (by omega), by omega⟩

/-- When LOCK is refused (44_protection_codec.md rules R241, R242, R250). -/
theorem lockByte_eq_none_iff (hc : c.wf = true) :
    lockByte c cap off len old = none ↔
      (off + len ≠ cap ∧ isLockedSr c cap old (off + len) (cap - (off + len)) = false)
      ∨ 6 < leastShift cap (cap - off)
      ∨ leastShift cap (cap - off) ≤ 6 ∧ cap >>> leastShift cap (cap - off) < lockLen c cap old := by
  by_cases htail : off + len ≠ cap ∧ isLockedSr c cap old (off + len) (cap - (off + len)) = false
  · exact iff_of_true (if_pos htail) (.inl htail)
  by_cases hpow : leastShift cap (cap - off) ≤ 6
  · simp [lockByte, htail, hpow, Nat.not_lt.2 hpow, lockLen_withProtField hc cap old hpow]
  · simp [lockByte, htail, hpow, Nat.not_le.1 hpow]

end

/-- Settles O55: the search answers the largest suffix inside the request's tail, so a suffix that fits there is never
larger. -/
theorem lockByteCorrect : Obligations.LockByteCorrect := by
  intro c hc cap off len old _ hlen hrange
  refine ⟨fun new hnew => ?taken, ?refused⟩
  case taken =>
    obtain ⟨pow, hpow, hle, rfl, hlock, hgrow⟩ := lockByte_eq_some hc hnew
    have hfield : protField c (withProtField c old (7 - pow)) = 7 - pow := protField_withProtField hc old (by omega)
    have hfits : cap >>> pow ≤ cap - off := by
      rw [hpow]
      exact shiftRight_leastShift (by omega)
    have hend := lockOff_add_lockLen c cap (withProtField c old (7 - pow))
    refine ⟨by omega, by omega, fun bp _ _ h => ?_, hgrow, withProtField_and_not_mask hc old (by omega)⟩
    rw [hlock, hpow]
    exact shiftRight_le_leastShift h
  case refused =>
    have htail : off + len ≠ cap → (isLockedSr c cap old (off + len) (cap - (off + len)) = false ↔
        ¬ (0 < lockLen c cap old ∧ lockOff c cap old ≤ off + len)) := fun hne => by
      rw [← isLockedSr_iff (sr := old) (c := c) (n := cap - (off + len)) (by omega) (by omega), Bool.not_eq_true]
    have hsmallest : 6 < leastShift cap (cap - off) ↔ cap - off < cap >>> 6 := by
      rw [← Nat.not_le, leastShift_le_six_iff, Nat.not_le]
    have hshrinks : leastShift cap (cap - off) ≤ 6 →
        (cap >>> leastShift cap (cap - off) < lockLen c cap old ↔ cap - off < lockLen c cap old) := fun hle => by
      have hfits : cap >>> leastShift cap (cap - off) ≤ cap - off := shiftRight_leastShift (by omega)
      have hlargest := lockLen_le_leastShift (c := c) (cap := cap) (sr := old) (eff := cap - off)
      omega
    rw [lockByte_eq_none_iff hc, and_congr_right htail, hsmallest]
    by_cases hle : leastShift cap (cap - off) ≤ 6
    · simp only [hle, true_and, hshrinks hle]
    · simp only [hsmallest.1 (by omega), true_or, or_true]

/-! ## UNLOCK -/

section

variable {c : Config} {cap unit off len : Nat} {old new : Byte}

/-- A request that reaches the device's end leaves nothing protected (44_protection_codec.md rule R245). -/
theorem unlockField_of_end (h : off + len = cap) : unlockField c cap off len = some 0 := if_pos h

/-- The shift UNLOCK computes for the tail of `rem` bytes, by the rounding (44_protection_codec.md rule R247). -/
def unlockShift (r : UnlockRound) (cap rem : Nat) : Nat :=
  match r with
  | .keepTail => greatestShift cap rem
  | .freeRequest => leastShift cap rem

/-- Any other request is answered by the shift, when that can be encoded (44_protection_codec.md rules R247, R248). -/
theorem unlockField_of_tail (h : off + len ≠ cap) :
    unlockField c cap off len =
      if 6 < unlockShift c.unlockRound cap (cap - (off + len)) then none
      else some (7 - unlockShift c.unlockRound cap (cap - (off + len))) := if_neg h

/-- When UNLOCK answers a byte, and what the byte protects (44_protection_codec.md rules R245 to R248). -/
theorem unlockByte_eq_some (hc : c.wf = true) (h : unlockByte c cap unit off len old = some new) :
    lockLen c cap new ≤ lockLen c cap old ∧ new &&& ~~~c.srBpMask = old &&& ~~~c.srBpMask
      ∧ (off + len = cap → protField c new = 0)
      ∧ (off + len ≠ cap → 1 ≤ protField c new
          ∧ lockLen c cap new = cap >>> unlockShift c.unlockRound cap (cap - (off + len))
          ∧ unlockShift c.unlockRound cap (cap - (off + len)) ≤ 6) := by
  simp only [unlockByte] at h
  split at h
  · cases h
  split at h
  · cases h
  rename_i bp hfield
  split at h
  · cases h
  rename_i hgrow
  cases h
  by_cases hend : off + len = cap
  · cases (unlockField_of_end hend).symm.trans hfield
    exact ⟨by omega, withProtField_and_not_mask hc old (by decide),
      fun _ => protField_withProtField hc old (by decide), absurd hend⟩
  · rw [unlockField_of_tail hend] at hfield
    split at hfield
    · cases hfield
    rename_i hpow
    cases hfield
    refine ⟨by omega, withProtField_and_not_mask hc old (by omega), fun h => absurd h hend, fun _ => ⟨?_, ?_, by omega⟩⟩
    · rw [protField_withProtField hc old (by omega)]
      omega
    · exact lockLen_withProtField hc cap old (by omega)

/-- The two grounds of a refusal that are not the probe's (44_protection_codec.md rules R248, R250). -/
def UnlockTailRefused (c : Config) (cap rem : Nat) (old : Byte) : Prop :=
  6 < unlockShift c.unlockRound cap rem
    ∨ unlockShift c.unlockRound cap rem ≤ 6 ∧ lockLen c cap old < cap >>> unlockShift c.unlockRound cap rem

/-- When UNLOCK is refused (44_protection_codec.md rules R246, R248, R250). -/
theorem unlockByte_eq_none_iff (hc : c.wf = true) :
    unlockByte c cap unit off len old = none ↔
      (unit ≤ off ∧ isLockedSr c cap old (off - unit) unit = true)
      ∨ off + len ≠ cap ∧ UnlockTailRefused c cap (cap - (off + len)) old := by
  by_cases hprobe : unit ≤ off ∧ isLockedSr c cap old (off - unit) unit = true
  · exact iff_of_true (if_pos hprobe) (.inl hprobe)
  rw [unlockByte, if_neg hprobe]
  by_cases hend : off + len = cap
  · have hnothing : lockLen c cap (withProtField c old 0) = 0 :=
      lockLen_of_unprotected (protField_withProtField hc old (by decide))
    simp [unlockField_of_end hend, hend, hprobe, hnothing]
  by_cases hpow : unlockShift c.unlockRound cap (cap - (off + len)) ≤ 6
  · simp [unlockField_of_tail hend, UnlockTailRefused, hend, hprobe, hpow, Nat.not_lt.2 hpow,
      lockLen_withProtField hc cap old hpow]
  · simp [unlockField_of_tail hend, UnlockTailRefused, hend, hprobe, hpow, Nat.not_le.1 hpow]

/-- Under `KEEP_TAIL`: the tail of `rem` bytes is too short to encode, or not all of it is protected now. -/
theorem unlockTailRefused_keepTail {rem : Nat} (hr : c.unlockRound = .keepTail) (hpos : 1 ≤ rem) (hrem : rem ≤ cap) :
    UnlockTailRefused c cap rem old ↔ rem ≤ cap >>> 7 ∨ lockLen c cap old < rem := by
  have hgrows : lockLen c cap old < cap >>> greatestShift cap rem ↔ lockLen c cap old < rem := by
    have hcovers := le_shiftRight_greatestShift hrem
    have hsmallest := greatestShift_le_lockLen (c := c) (cap := cap) (sr := old) hpos
    omega
  simp only [UnlockTailRefused, hr, unlockShift, hgrows, ← six_lt_greatestShift_iff hrem]
  omega

/-- Under `FREE_REQUEST`: no suffix fits into the tail of `rem` bytes, or one does that is larger than the suffix now. -/
theorem unlockTailRefused_freeRequest {rem : Nat} (hr : c.unlockRound = .freeRequest) :
    UnlockTailRefused c cap rem old ↔
      rem < cap >>> 6 ∨ ∃ bp, 1 ≤ bp ∧ bp ≤ 7 ∧ cap >>> (7 - bp) ≤ rem ∧ lockLen c cap old < cap >>> (7 - bp) := by
  have hsmallest : 6 < leastShift cap rem ↔ rem < cap >>> 6 := by
    rw [← Nat.not_le, leastShift_le_six_iff, Nat.not_le]
  simp only [UnlockTailRefused, hr, unlockShift, hsmallest]
  refine or_congr_right' fun hfits => ⟨fun ⟨hpow, hgrows⟩ => ?_, fun ⟨bp, _, _, hbp, hgrows⟩ => ?_⟩
  · refine ⟨7 - leastShift cap rem, by omega, by omega, ?_⟩
    rw [show 7 - (7 - leastShift cap rem) = leastShift cap rem by omega]
    exact ⟨shiftRight_leastShift (by omega), hgrows⟩
  · exact ⟨leastShift_le_six_iff.2 (Nat.not_lt.1 hfits), Nat.lt_of_lt_of_le hgrows (shiftRight_le_leastShift hbp)⟩

end

/-- Settles O56: each rounding's search answers the extreme suffix of its kind. -/
theorem unlockByteCorrect : Obligations.UnlockByteCorrect := by
  intro c hc cap unit off len old _ hlen hrange rem
  refine ⟨fun new hnew => ?taken, fun hunit => ?refused⟩
  case taken =>
    obtain ⟨hle, hbits, hatEnd, hbefore⟩ := unlockByte_eq_some hc hnew
    have hend := lockOff_add_lockLen c cap new
    have hlock (h : off + len < cap) : lockLen c cap new = cap >>> unlockShift c.unlockRound cap rem
        ∧ unlockShift c.unlockRound cap rem ≤ 6 := (hbefore h.ne).2
    refine ⟨hle, hbits, fun h => ⟨hatEnd h, lockLen_of_unprotected (hatEnd h)⟩, fun h => (hbefore h.ne).1,
      fun h hr => ?keepTail, fun h hr => ?freeRequest⟩
    all_goals obtain ⟨hlock, hpow⟩ := hlock h
    case keepTail =>
      rw [hr, unlockShift] at hlock hpow
      have hcovers : rem ≤ cap >>> greatestShift cap rem := le_shiftRight_greatestShift (Nat.sub_le _ _)
      refine ⟨by omega, fun bp _ _ hbp => ?_⟩
      rw [hlock]
      exact greatestShift_le_shiftRight (by omega) hbp
    case freeRequest =>
      rw [hr, unlockShift] at hlock hpow
      have hfits : cap >>> leastShift cap rem ≤ rem := shiftRight_leastShift (by omega)
      refine ⟨by omega, fun bp _ _ hbp => ?_⟩
      rw [hlock]
      exact shiftRight_le_leastShift hbp
  case refused =>
    have hprobe : unit ≤ off → (isLockedSr c cap old (off - unit) unit = true ↔
        0 < lockLen c cap old ∧ lockOff c cap old ≤ off - unit) := fun hle => isLockedSr_iff hunit (by omega)
    have hbefore : off + len ≠ cap ↔ off + len < cap := by omega
    rw [unlockByte_eq_none_iff hc, and_congr_right hprobe, hbefore]
    refine or_congr_right ?_
    by_cases hlt : off + len < cap
    · cases hr : c.unlockRound with
      | keepTail =>
        rw [unlockTailRefused_keepTail hr (by omega) (by omega)]
        simp [hlt, rem]
      | freeRequest =>
        rw [unlockTailRefused_freeRequest hr]
        simp [hlt, rem]
    · simp [hlt]

end Sys2Proof.Machine
end

section
/-!
PROOFS. The protection commands from their acceptance to their end (44_protection_codec.md rules R235, R240, R244, R245): O34,
O47.
-/

namespace Sys2Proof.Machine

open Sys2Proof

/-! ## The acceptance -/

/-- On a chip with protection bits a range that passes `Precheck()` goes to the first exchange (46_sequencer.md rule
R279). -/
theorem State.protectionHead_of_rangeOk {s : State} (hr : s.rangeOk) (hv : s.dev.protVariant = .bp) (f : FsmState) :
    s.protectionHead f = s.setFsm f := by
  rw [State.protectionHead, State.withPrecheck_of_rangeOk hr, hv]

/-- Settles O34. -/
theorem protectionCommandsAccepted : Obligations.ProtectionCommandsAccepted := by
  intro s off len hf hid hlen hrange hv
  have hhead (code : Byte) (f : FsmState) :
      s.whenIdle (fun s => (s.load code off len).protectionHead f) = (s.load code off len).setFsm f := by
    rw [State.whenIdle_of_idle hf]
    exact State.protectionHead_of_rangeOk (State.load_rangeOk code hid hlen hrange) hv f
  refine ⟨?lock, ?unlock, ?isLocked⟩
  case lock => exact congrArg Host.Outcome.next (hhead 0x05 .lkRdsr)
  case unlock => exact congrArg Host.Outcome.next (hhead 0x06 .ulRdsr)
  case isLocked => exact congrArg Host.Outcome.next (hhead 0x09 .ilRdsr)

/-! ## The frames, answered -/

section

variable {s : State} {rx : List Byte}

/-- `S_LQ_RDSR` and `S_LK_RDSR` on Ok: the status byte goes to the lock query, or to LOCK (46_sequencer.md rules R283,
R287). -/
theorem exec_rdsr_ok {b : Byte} (hb : s.reply .rdsr = .ok [b]) :
    (s.q.fsm = .lqRdsr → exec .rdsr s = .next ((s.sent .rdsr).lockQueried [b]))
    ∧ (s.q.fsm = .lkRdsr → exec .rdsr s = .next ((s.sent .rdsr).lockRead [b])) := by
  have hok : (s.exchange .rdsr).1 = .ok [b] := hb
  have hfull : answerFailure 1 (.ok [b]) = none := rfl
  constructor <;> intro hf <;>
    simp only [exec, execRdsr, State.exchange_q, hf, hok, State.resume_ok hfull, answerBytes, State.sent]

/-- `S_LK_WREN` on Ok (46_sequencer.md rule R287). -/
theorem exec_wren_of_lkWren (hf : s.q.fsm = .lkWren) (hrx : s.reply .wren = .ok rx) :
    exec .wren s = .next ((s.sent .wren).setFsm .lkWrsr) := by
  simp only [exec, execWren, State.exchange_q, hf, State.resume_silent _ (a := (s.exchange .wren).1) hrx, State.sent]

/-- `S_LK_WRSR` and `S_UL_WRSR` on Ok: nothing is polled (44_protection_codec.md rule R244). -/
theorem exec_wrsr_ok {p : List Byte} (hf : s.q.fsm = .lkWrsr ∨ s.q.fsm = .ulWrsr) (hrx : s.reply (.wrsr p) = .ok rx) :
    exec (.wrsr p) s = .next ((s.sent (.wrsr p)).endOk 0) := by
  rcases hf with hf | hf <;>
    simp only [exec, execWrsr, State.exchange_q, hf, State.resume_silent _ (a := (s.exchange (.wrsr p)).1) hrx,
      State.sent]

end

/-- Settles O47. -/
theorem wrsrEndsCodec : Obligations.WrsrEndsCodec := by
  intro s p rx hf hrx
  rw [exec_wrsr_ok hf hrx, State.endOk_eq, ← s.sent_q (.wrsr p), ← s.sent_rsp (.wrsr p)]

end Sys2Proof.Machine
end

section
/-!
PROOFS. A WRITE or ERASE that the lock query refuses behind the chip `WB`, also right after a LOCK (44_protection_codec.md
rule R251; 95_test_vectors.md section 5): O60.
-/

namespace Sys2Proof.Machine

open Sys2Proof

/-! ## What one command leaves to the next -/

/-- What the acceptance of a command and the lock query read of the state, and what the host and the chip see of it. -/
structure Standing where
  cfg : Config
  identified : Bool
  capacity : Word64
  eraseSize : Word64
  protVariant : ProtVariant
  port : List CommandRecord
  resetLine : Bool
  hist : List Event
  transport : Transport

/-- The standing of the controller, read off its state. -/
def State.standing (s : State) : Standing :=
  { cfg := s.cfg, identified := s.dev.identified, capacity := s.dev.capacity, eraseSize := s.dev.eraseSize,
    protVariant := s.dev.protVariant, port := s.env.port, resetLine := s.env.resetLine, hist := s.hist,
    transport := s.env.transport }

/-- The exchange `x` has been answered `a`, and the chip is `ch` after it. -/
def Standing.exchanged (v : Standing) (x : Xfer) (a : Answer) (ch : Chip) : Standing :=
  { v with hist := v.hist ++ [.xfer x a], transport := .wellBehaved ch }

/-- An identified device with protection bits stands before the chip `ch`. -/
structure Standing.BeforeChip (v : Standing) (ch : Chip) : Prop where
  config : v.cfg.wf = true
  noReset : v.resetLine = false
  identified : v.identified = true
  bits : v.protVariant = .bp
  chip : v.transport = .wellBehaved ch

theorem Standing.BeforeChip.exchanged {v : Standing} {ch : Chip} (h : v.BeforeChip ch) (x : Xfer) (a : Answer)
    (ch' : Chip) : (v.exchanged x a ch').BeforeChip ch' :=
  { h with chip := rfl }

/-- A frame that the chip answers, and whose step ends in `t`. -/
theorem Standing.BeforeChip.step_of_frame {s t : State} {ch : Chip} {i : Instr} {x : Xfer} {a : Answer}
    (h : s.standing.BeforeChip ch) (hi : s.fetchFrame = some i) (hx : encodeFrame s.cfg s.geom i = some x)
    (ha : ch.answer s.cfg i = some a) (hexec : s.reply i = clipAnswer x.rxn a → exec i s = .next t)
    (hstanding : t.standing = (s.sent i).standing) :
    step s = .next t ∧ t.standing = s.standing.exchanged x (clipAnswer x.rxn a) (ch.after s.cfg i) := by
  have hreply : (s.exchange i).1 = clipAnswer x.rxn a := State.exchange_chip_answer h.chip hx ha
  have hsent : (s.sent i).standing = s.standing.exchanged x (clipAnswer x.rxn a) (ch.after s.cfg i) := by
    have htransport := State.exchange_chip h.chip hx ha
    simp only [State.exchange_of_frame hx, State.transfer_env, State.transfer_answer] at hreply htransport
    simp only [State.standing, State.sent, State.exchange_of_frame hx, State.transfer_cfg, State.transfer_dev,
      State.transfer_hist, State.transfer_env, State.envAfter_port, State.envAfter_resetLine, hreply, htransport,
      Standing.exchanged]
  exact ⟨(Machine.step_of_frame h.config h.noReset hi).trans (hexec hreply), hstanding.trans hsent⟩

/-! ## Runs and records -/

theorem run_add {m : Nat} {s t : State} (h : Host.Core.run core m s = .next t) (n : Nat) :
    Host.Core.run core (m + n) s = Host.Core.run core n t := by
  induction m generalizing s with
  | zero =>
    cases h
    rw [Nat.zero_add]
  | succ m ih =>
    rw [Nat.succ_add]
    simp only [Host.Core.run] at h ⊢
    split at h
    · exact ih h
    · cases h
    · cases h

theorem run_one {s t : State} (h : step s = .next t) : Host.Core.run core 1 s = .next t := by
  have hcore : core.step s = .next t := h
  simp only [Host.Core.run, hcore]

/-- The record of a command decodes to it (30_encoding.md rules R91 to R93). -/
theorem decodeRecord_of_encodeRecord {i : Instr} {r : CommandRecord} (h : encodeRecord i = some r) (hok : r.ok) :
    decodeRecord r = .ok i := by
  cases i
  case write =>
    cases h
    have hcode := Laws.OneInterface.commandRecord_code
    simp only [decodeRecord, hcode]
    exact if_pos (hok (hcode _ _ _ _))
  case identify | read | erase | lock | unlock | geometry | reprobe | isLocked =>
    cases h
    simp only [decodeRecord, Laws.OneInterface.commandRecord_code]
    rfl
  all_goals cases h

/-- The acceptance step runs the command its record decodes to (46_sequencer.md rule R279). -/
theorem step_of_record {s : State} {r : CommandRecord} {rest : List CommandRecord} {i : Instr} (hc : s.cfg.wf = true)
    (hr : s.env.resetLine = false) (hf : s.q.fsm = .idle) (hport : s.env.port = r :: rest)
    (hdecode : decodeRecord r = .ok i) : step s = exec i s.takeRecord := by
  rw [step_of_idle hc hr hf]
  simp only [stepIdle, hport, hdecode]

/-! ## LOCK behind the chip -/

section

variable {s : State} {ch : Chip} (h : s.standing.BeforeChip ch)

include h

/-- `S_LK_RDSR`, with a byte to write (46_sequencer.md rule R287). -/
theorem step_of_lkRdsr {new : Byte} (hf : s.q.fsm = .lkRdsr)
    (hnew : lockByte s.cfg s.dev.capacity.toNat s.q.off.toNat s.q.len.toNat ch.sr = some new) :
    ∃ t, step s = .next t ∧ t.q.fsm = .lkWren ∧ t.q.srNew = new
      ∧ t.standing = s.standing.exchanged (receiveXfer s.cfg.opc.rdsr 1) (.ok [ch.sr]) ch := by
  have hread : (s.sent .rdsr).lockRead [ch.sr] = (((s.sent .rdsr).setSrOld ch.sr).setSrNew new).setFsm .lkWren := by
    have hcap : (s.sent .rdsr).dev.capacity = s.dev.capacity := s.exchange_dev_capacity .rdsr
    simp only [State.lockRead, List.headD_cons, State.setSrOld_cfg, State.setSrOld_dev, State.setSrOld_q_off,
      State.setSrOld_q_len, State.setSrOld_q_srOld, State.sent_cfg, State.sent_q, hcap, hnew]
  have hexec (hb : s.reply .rdsr = .ok [ch.sr]) :
      exec .rdsr s = .next ((((s.sent .rdsr).setSrOld ch.sr).setSrNew new).setFsm .lkWren) := by
    rw [(exec_rdsr_ok hb).2 hf, hread]
  obtain ⟨hstep, hstanding⟩ := h.step_of_frame (i := .rdsr) (by simp only [State.fetchFrame, hf]) rfl rfl hexec rfl
  exact ⟨_, hstep, rfl, rfl, hstanding⟩

/-- `S_LK_WREN` (46_sequencer.md rule R287). -/
theorem step_of_lkWren (hf : s.q.fsm = .lkWren) :
    ∃ t, step s = .next t ∧ t.q.fsm = .lkWrsr ∧ t.q.srNew = s.q.srNew
      ∧ t.standing = s.standing.exchanged (silentXfer s.cfg.opc.wren) (.ok []) { ch with wel := true } := by
  obtain ⟨hstep, hstanding⟩ := h.step_of_frame (i := .wren) (t := (s.sent .wren).setFsm .lkWrsr)
    (by simp only [State.fetchFrame, hf]) rfl rfl (exec_wren_of_lkWren hf) rfl
  exact ⟨_, hstep, rfl, by rw [State.setFsm_q_srNew, State.sent_q], hstanding⟩

/-- `S_LK_WRSR`, under the write-enable latch: the chip keeps bits 0 and 1 at 0 (95_test_vectors.md section 5). -/
theorem step_of_lkWrsr (hf : s.q.fsm = .lkWrsr) (hwel : ch.wel = true) :
    ∃ t, step s = .next t ∧ t.q.fsm = .idle
      ∧ t.standing = s.standing.exchanged (sendXfer s.cfg.opc.wrsr [s.q.srNew]) (.ok [])
          { ch with sr := s.q.srNew &&& 0xFC, wel := false } := by
  have hafter : ch.after s.cfg (.wrsr [s.q.srNew]) = { ch with sr := s.q.srNew &&& 0xFC, wel := false } := if_pos hwel
  obtain ⟨hstep, hstanding⟩ := h.step_of_frame (i := .wrsr [s.q.srNew]) (t := (s.sent (.wrsr [s.q.srNew])).endOk 0)
    (by simp only [State.fetchFrame, hf]) rfl rfl (exec_wrsr_ok (.inl hf)) rfl
  rw [hafter] at hstanding
  exact ⟨_, hstep, rfl, hstanding⟩

/-- A LOCK that writes a byte ends after its three exchanges; of the chip the status register and the latch have changed
(46_sequencer.md rule R287). -/
theorem lock_writes_byte {o l : Word64} {new : Byte} {rest : List CommandRecord} (hf : s.q.fsm = .idle)
    (hport : s.env.port = commandRecord 0x05 o l [] :: rest) (hl : l ≠ 0)
    (hrange : o.toNat + l.toNat ≤ s.dev.capacity.toNat)
    (hnew : lockByte s.cfg s.dev.capacity.toNat o.toNat l.toNat ch.sr = some new) :
    ∃ u, Host.Core.run core 4 s = .next u ∧ u.q.fsm = .idle
      ∧ u.standing = { s.standing with
          port := rest
          hist := s.hist ++ [.xfer ⟨[s.cfg.opc.rdsr], none, some 1⟩ (.ok [ch.sr]),
            .xfer ⟨[s.cfg.opc.wren], none, none⟩ (.ok []), .xfer ⟨[s.cfg.opc.wrsr], some [new], none⟩ (.ok [])]
          transport := .wellBehaved { ch with sr := new &&& 0xFC, wel := false } } := by
  have hdecode : decodeRecord (commandRecord 0x05 o l []) = .ok (.lock o l) :=
    decodeRecord_of_encodeRecord rfl fun hcode => by
      rw [Laws.OneInterface.commandRecord_code] at hcode
      exact absurd hcode (by decide)
  have haccept : step s = .next ((s.takeRecord.load 0x05 o l).setFsm .lkRdsr) :=
    (step_of_record h.config h.noReset hf hport hdecode).trans
      (protectionCommandsAccepted s.takeRecord o l hf h.identified hl hrange h.bits).1
  have hstanding₁ : ((s.takeRecord.load 0x05 o l).setFsm .lkRdsr).standing = { s.standing with port := rest } := by
    simp only [State.standing, State.setFsm_env, State.load_env, State.takeRecord_env_port, hport, List.tail_cons]
    rfl
  have h₁ : ((s.takeRecord.load 0x05 o l).setFsm .lkRdsr).standing.BeforeChip ch := by
    rw [hstanding₁]
    exact { h with }
  obtain ⟨u₂, hread, hf₂, hnew₂, hstanding₂⟩ := step_of_lkRdsr h₁ rfl hnew
  have h₂ : u₂.standing.BeforeChip ch := by
    rw [hstanding₂]
    exact h₁.exchanged _ _ _
  obtain ⟨u₃, henable, hf₃, hnew₃, hstanding₃⟩ := step_of_lkWren h₂ hf₂
  have h₃ : u₃.standing.BeforeChip { ch with wel := true } := by
    rw [hstanding₃]
    exact h₂.exchanged _ _ _
  obtain ⟨u₄, hwrite, hf₄, hstanding₄⟩ := step_of_lkWrsr h₃ hf₃ rfl
  have hcfg₂ : u₂.cfg = s.cfg := congrArg Standing.cfg hstanding₂
  have hcfg₃ : u₃.cfg = s.cfg := (congrArg Standing.cfg hstanding₃).trans hcfg₂
  refine ⟨u₄, ?_, hf₄, ?_⟩
  · rw [run_add (run_one haccept) 3, run_add (run_one hread) 2, run_add (run_one henable) 1, run_one hwrite]
  · rw [hstanding₄, hstanding₃, hstanding₂, hstanding₁, hcfg₂, hcfg₃, hnew₃, hnew₂]
    simp only [Standing.exchanged, List.append_assoc]
    rfl

end

/-! ## A command the lock query refuses -/

/-- An ERASE of whole units, or a WRITE with its buffer, of the range `[off, off + len)`. -/
abbrev ChangesRange (i : Instr) (off len : Word64) (unit : Nat) : Prop :=
  (i = .erase off len ∧ len.toNat % unit = 0) ∨ ∃ buf, i = .write off len buf ∧ buf.length = len.toNat

theorem decodeRecord_of_changesRange {i : Instr} {off len : Word64} {unit : Nat} {r : CommandRecord}
    (hi : ChangesRange i off len unit) (h : encodeRecord i = some r) : decodeRecord r = .ok i := by
  refine decodeRecord_of_encodeRecord h fun hcode => ?_
  rcases hi with ⟨rfl, -⟩ | ⟨buf, rfl, hbuf⟩ <;> cases h
  · rw [Laws.OneInterface.commandRecord_code] at hcode
    exact absurd hcode (by decide)
  · exact hbuf

section

variable {s : State} {ch : Chip} {off len : Word64} (h : s.standing.BeforeChip ch)

include h

/-- Under `CODEC` the command goes to its lock query (44_protection_codec.md rule R236). -/
theorem exec_reaches_lockQuery {i : Instr} (hi : ChangesRange i off len s.dev.eraseSize.toNat) (hf : s.q.fsm = .idle)
    (hquery : s.cfg.lockQuery = .codec) (hlen : len ≠ 0) (hrange : off.toNat + len.toNat ≤ s.dev.capacity.toNat) :
    ∃ u, exec i s = .next u ∧ u.q.fsm = .lqRdsr ∧ u.q.off = off ∧ u.q.len = len ∧ u.standing = s.standing := by
  rcases hi with ⟨rfl, hwhole⟩ | ⟨buf, rfl, -⟩
  · exact ⟨_, (eraseAccepted s off len hf h.identified hlen hrange hwhole).1 hquery h.bits, rfl, rfl, rfl, rfl⟩
  · exact ⟨_, (writeAccepted s off len buf hf h.identified hlen hrange).1 hquery h.bits, rfl, rfl, rfl, rfl⟩

/-- `S_LQ_RDSR`, with the command's range locked (46_sequencer.md rule R283; 44_protection_codec.md rule R251). -/
theorem step_of_lqRdsr (hf : s.q.fsm = .lqRdsr) (hlocked : s.rangeLocked ch.sr = true) :
    ∃ t, step s = .next t ∧ t.q.fsm = .idle ∧ t.rsp = s.rsp.error .locked 0 s.q.off s.q.len
      ∧ t.standing = s.standing.exchanged (receiveXfer s.cfg.opc.rdsr 1) (.ok [ch.sr]) ch := by
  have hrefused : (s.sent .rdsr).lockQueried [ch.sr] = (s.sent .rdsr).endOutside .locked := by
    have hcap : (s.sent .rdsr).dev.capacity = s.dev.capacity := s.exchange_dev_capacity .rdsr
    have hsame : (s.sent .rdsr).rangeLocked ch.sr = s.rangeLocked ch.sr := by
      simp only [State.rangeLocked, State.sent_cfg, State.sent_q, hcap]
    rw [State.lockQueried, List.headD_cons, hsame, hlocked]
    exact if_pos rfl
  have hexec (hb : s.reply .rdsr = .ok [ch.sr]) : exec .rdsr s = .next ((s.sent .rdsr).endOutside .locked) := by
    rw [(exec_rdsr_ok hb).1 hf, hrefused]
  obtain ⟨hstep, hstanding⟩ := h.step_of_frame (i := .rdsr) (by simp only [State.fetchFrame, hf]) rfl rfl hexec rfl
  refine ⟨_, hstep, rfl, ?_, hstanding⟩
  rw [State.endOutside_of_error _ (st := .locked) nofun nofun, State.sent_rsp, State.sent_q]

/-- The two steps of a command whose range starts inside the protected suffix: `Locked`, after the one exchange that reads
the status register, the chip as it was (44_protection_codec.md rule R251). -/
theorem lockedRange_refused {i : Instr} {r : CommandRecord} {rest : List CommandRecord} (hf : s.q.fsm = .idle)
    (hquery : s.cfg.lockQuery = .codec) (hi : ChangesRange i off len s.dev.eraseSize.toNat)
    (henc : encodeRecord i = some r) (hport : s.env.port = r :: rest) (hlen : len ≠ 0)
    (hrange : off.toNat + len.toNat ≤ s.dev.capacity.toNat)
    (hstart : lockOff s.cfg s.dev.capacity.toNat ch.sr ≤ off.toNat) :
    ∃ t, Host.Core.run core 2 s = .next t ∧ t.q.fsm = .idle ∧ t.rsp.status = .locked ∧ t.rsp.count = 0
      ∧ t.rsp.failOff = off ∧ t.rsp.failLen = len
      ∧ t.hist = s.hist ++ [.xfer ⟨[s.cfg.opc.rdsr], none, some 1⟩ (.ok [ch.sr])]
      ∧ t.env.transport = .wellBehaved ch := by
  have htaken : s.takeRecord.standing.BeforeChip ch := { h with }
  obtain ⟨u, hexec, hfu, rfl, rfl, hu⟩ := exec_reaches_lockQuery htaken hi hf hquery hlen hrange
  have hcfg : u.cfg = s.cfg := congrArg Standing.cfg hu
  have hcap : u.dev.capacity = s.dev.capacity := congrArg Standing.capacity hu
  have hhist : u.hist = s.hist := congrArg Standing.hist hu
  have hlocked : u.rangeLocked ch.sr = true := by
    have hend := lockOff_add_lockLen s.cfg s.dev.capacity.toNat ch.sr
    simp only [State.rangeLocked, isLockedSr, hcfg, hcap, Bool.and_eq_true, decide_eq_true_eq]
    omega
  have haccept : step s = .next u :=
    (step_of_record h.config h.noReset hf hport (decodeRecord_of_changesRange hi henc)).trans hexec
  obtain ⟨t, hstep, hft, hrsp, ht⟩ := step_of_lqRdsr (by rw [hu]; exact htaken) hfu hlocked
  refine ⟨t, ?_, hft, by rw [hrsp]; rfl, by rw [hrsp]; rfl, by rw [hrsp]; rfl, by rw [hrsp]; rfl, ?_,
    congrArg Standing.transport ht⟩
  · rw [run_add (run_one haccept) 1, run_one hstep]
  · rw [← hhist, ← hcfg]
    exact congrArg Standing.hist ht

end

/-- A field whose place is clear of bits 0 and 1 stays when the chip clears these (95_test_vectors.md section 5). -/
theorem protField_and_chipMask {c : Config} (hc : c.wf = true) (hshift : 2 ≤ c.srBpShift) (sr : Byte) :
    protField c (sr &&& 0xFC) = protField c sr := by
  obtain ⟨hmask, hplace⟩ := srBp_of_wf hc
  have hclear : ∀ k ≤ 5, 2 ≤ k → (0xFC#8) &&& 7#8 <<< k = 7#8 <<< k := by decide
  have hkept : sr &&& 0xFC#8 &&& c.srBpMask = sr &&& c.srBpMask := by
    rw [BitVec.and_assoc, hmask, hclear _ hplace hshift]
  exact congrArg (fun b : Byte => (b >>> c.srBpShift).toNat) hkept

theorem lockOff_and_chipMask {c : Config} (hc : c.wf = true) (hshift : 2 ≤ c.srBpShift) (cap : Nat) (sr : Byte) :
    lockOff c cap (sr &&& 0xFC) = lockOff c cap sr := by
  simp only [lockOff, lockLen, protField_and_chipMask hc hshift]

/-- Settles O60: the refusal is one lemma, used on the state given and on the one LOCK leaves. -/
theorem lockedRangeRefused : Obligations.LockedRangeRefused := by
  intro s ch off len i r rest hinv hreset hf hid hv hquery hchip hi henc hlen hrange cap statusRead refused
  have hbefore : s.standing.BeforeChip ch := ⟨hinv.config, hreset, hid, hv, hchip⟩
  refine ⟨fun hport _ hstart => ?alreadyLocked, fun o l new hport hl hlrange hshift hnew hstart => ?afterLock⟩
  case alreadyLocked =>
    obtain ⟨t, hrun, hft, hstatus, hcount, hoff, hflen, hhist, htransport⟩ :=
      lockedRange_refused hbefore hf hquery hi henc hport hlen hrange hstart
    exact ⟨t, hrun, ⟨hft, hstatus, hcount, hoff, hflen⟩, hhist, htransport⟩
  case afterLock =>
    obtain ⟨u, hlock, hfu, hu⟩ := lock_writes_byte hbefore hf hport hl hlrange hnew
    have hcfg : u.cfg = s.cfg := congrArg Standing.cfg hu
    have hcap : u.dev.capacity = s.dev.capacity := congrArg Standing.capacity hu
    have hunit : u.dev.eraseSize = s.dev.eraseSize := congrArg Standing.eraseSize hu
    have hbefore' : u.standing.BeforeChip { ch with sr := new &&& 0xFC, wel := false } := by
      rw [hu]
      exact { hbefore with chip := rfl }
    obtain ⟨t, hrun, hft, hstatus, hcount, hoff, hflen, hhist, htransport⟩ :=
      lockedRange_refused hbefore' hfu (by rw [hcfg, hquery]) (by rw [hunit]; exact hi) henc (congrArg Standing.port hu)
        hlen (by rw [hcap]; exact hrange)
        (by rw [hcfg, hcap, lockOff_and_chipMask hinv.config hshift]; exact hstart)
    have hhistU : u.hist = _ := congrArg Standing.hist hu
    refine ⟨t, (run_add hlock 2).trans hrun, ⟨hft, hstatus, hcount, hoff, hflen⟩, ?_, htransport⟩
    rw [hhist, hhistU, hcfg, List.append_assoc]
    rfl

end Sys2Proof.Machine
end

section
/-!
PROOFS. The vendor reads of the quad negotiation, answered (45_quad_negotiator.md rules R262, R266; 46_sequencer.md rule
R282): O40.
-/

namespace Sys2Proof.Machine

open Sys2Proof

/-- The enable bit of the procedure `v` in the register byte `b` (45_quad_negotiator.md rule R266). -/
theorem quadBitSet_iff {v : QuadProc} {b : Byte} : quadBitSet v b = true ↔ b &&& v.bit ≠ 0 := bne_iff_ne

/-- Where the negotiation goes from its first read, by the payload kind (45_quad_negotiator.md rule R264). -/
theorem State.quadFirstRead_eq (s : State) (v : QuadProc) (b : Byte) :
    s.quadFirstRead v [b] =
      (s.setReg b).setFsm (if v.payload = .srThenReg then .qnRdsr else .qnWren) := by
  unfold State.quadFirstRead
  cases v.payload <;> rfl

section

variable {s : State} {v : QuadProc} {b : Byte}

/-- The read-back confirms: the flag is the last write (45_quad_negotiator.md rule R266; 41_identification.md rule R164). -/
theorem State.quadReadBack_of_set (h : b &&& v.bit ≠ 0) : s.quadReadBack v [b] = (s.setReg b).identifyDone :=
  if_pos (quadBitSet_iff.2 h)

/-- The read-back does not confirm: the command ends at once, and the device is as it was (45_quad_negotiator.md rule
R266). -/
theorem State.quadReadBack_of_clear (h : b &&& v.bit = 0) :
    s.quadReadBack v [b] = (s.setReg b).endOutside .modeNotConfirmed :=
  if_neg fun hset => quadBitSet_iff.1 hset h

/-- `S_QN_RD1` and `S_QN_RD2` on Ok: the register byte goes to the procedure of the device's vendor (46_sequencer.md rule
R282). -/
theorem exec_rdvr_ok {op : Byte} (hv : s.quadProc = some v) (hb : s.reply (.rdvr op) = .ok [b]) :
    (s.q.fsm = .qnRd1 → exec (.rdvr op) s = .next ((s.sent (.rdvr op)).quadFirstRead v [b]))
    ∧ (s.q.fsm = .qnRd2 → exec (.rdvr op) s = .next ((s.sent (.rdvr op)).quadReadBack v [b])) := by
  have hproc : (s.exchange (.rdvr op)).2.quadProc = some v := by
    simpa only [State.quadProc, State.exchange_q, State.exchange_cfg] using hv
  have hok : (s.exchange (.rdvr op)).1 = .ok [b] := hb
  have hfull : answerFailure 1 (.ok [b]) = none := rfl
  constructor <;> intro hf <;>
    simp only [exec, execRdvr, hproc, State.exchange_q, hf, hok, State.resume_ok hfull, answerBytes, State.sent]

end

/-- Settles O40: the first read by its payload kind, the read-back by its bit; the exchange leaves `q` and `rsp`. -/
theorem readBackConfirms : Obligations.ReadBackConfirms := by
  intro s v hv
  refine ⟨fun op b hf hb => ?firstRead, fun op b hf hb hset => ?confirmed, fun op b hf hb hclear => ?notConfirmed⟩
  all_goals rw [← s.sent_q (.rdvr op)]
  case firstRead =>
    rw [(exec_rdvr_ok hv hb).1 hf, State.quadFirstRead_eq]
    rfl
  case confirmed =>
    rw [(exec_rdvr_ok hv hb).2 hf, State.quadReadBack_of_set hset, State.identifyDone, State.endOk_eq,
      ← s.sent_rsp (.rdvr op)]
    rfl
  case notConfirmed =>
    rw [(exec_rdvr_ok hv hb).2 hf, State.quadReadBack_of_clear hclear,
      State.endOutside_of_error _ (st := .modeNotConfirmed) nofun nofun, ← s.sent_rsp (.rdvr op)]
    rfl

end Sys2Proof.Machine
end

section
/-!
PROOFS. The step of the sequencer (46_sequencer.md rules R276 to R279): which frame each rest state issues (O8), that a
step adds its one exchange and at most one clock sample to the history (O10) and holds the response of a running command
(O13), and that the invariant leaves it no stop (O19).
-/

namespace Sys2Proof

/-- A frame is exchanged under every configuration and geometry (30_encoding.md rule R100). -/
theorem exists_encodeFrame {i : Instr} (hi : i.isHost = false) (c : Config) (g : FrameGeom) :
    ∃ x, encodeFrame c g i = some x := by
  cases i with
  | identify | read | write | erase | lock | unlock | geometry | reprobe | isLocked => cases hi
  | _ => exact ⟨_, rfl⟩

/-- A record of format H decodes, or its code is reserved (30_encoding.md rules R91, R96). -/
theorem decodeRecord_of_ok {r : CommandRecord} (h : r.ok) :
    (∃ i, decodeRecord r = .ok i) ∨ ∃ c, decodeRecord r = .error (.reservedCode c) := by
  unfold decodeRecord
  split
  case h_3 hcode => exact .inl ⟨_, if_pos (h hcode)⟩
  case h_10 => exact .inr ⟨_, rfl⟩
  all_goals exact .inl ⟨_, rfl⟩

end Sys2Proof

namespace Sys2Proof.Machine

open Sys2Proof

/-! ## The frame of each rest state -/

/-- The frames of a negotiation whose vendor has a procedure (46_sequencer.md rule R282). -/
theorem State.fetchFrame_of_quadProc {s : State} {v : QuadProc} (hv : s.quadProc = some v) :
    (s.q.fsm = .qnRd1 ∨ s.q.fsm = .qnRd2 → s.fetchFrame = some (.rdvr v.rdOp))
    ∧ (s.q.fsm = .qnWr → s.fetchFrame = some (.wrvr v.wrOp (s.quadPayload v))) := by
  refine ⟨fun hf => ?_, fun hf => by simp only [State.fetchFrame, hf, hv, Option.map_some]⟩
  rcases hf with hf | hf <;> simp only [State.fetchFrame, hf, hv, Option.map_some]

/-- Settles O8, row by row of the fourth column of rule R276. -/
theorem frameOfEachState : Obligations.FrameOfEachState := by
  intro s
  refine ⟨?none, ?rdid, ?rdsr, ?rdfsr, ?wren, ?wrdi, ?wrsr, fun v hv => ⟨?vendorRead, ?regOnly, ?srThenReg⟩, ?read,
    ?page, ?unit, ?erase⟩
  case none => rintro (hf | hf) <;> simp only [State.fetchFrame, hf]
  case rdid | rdfsr => intro hf; simp only [State.fetchFrame, hf]
  case rdsr | wren => rintro (hf | hf | hf | hf | hf | hf) <;> simp only [State.fetchFrame, hf]
  case wrdi | wrsr => rintro (hf | hf) <;> simp only [State.fetchFrame, hf]
  case vendorRead => exact (State.fetchFrame_of_quadProc hv).1
  case regOnly | srThenReg =>
    intro hf hpayload
    rw [(State.fetchFrame_of_quadProc hv).2 hf]
    simp only [State.quadPayload, hpayload]
  case read | page | unit | erase =>
    intro hf
    simp only [State.fetchFrame, hf]
    rfl

/-! ## What a step leaves of the response and the history -/

/-- From `u` to `t` the command has ended, or its response record is as it was, or the failure fields of a latched error
have been written and the closing write-disable comes next (10_state.md rule R29; 46_sequencer.md rule R285). -/
def State.HoldsResponse (u t : State) : Prop :=
  t.q.fsm = .idle ∨ t.rsp = u.rsp
    ∨ ((t.q.fsm = .bwWrdi ∨ t.q.fsm = .erWrdi) ∧ (t.q.err = .transportError ∨ t.q.err = .timeout)
      ∧ t.rsp = { u.rsp with failOff := t.rsp.failOff, failLen := t.rsp.failLen })

/-- What the rest of a frame's step, from `u` after the exchange to `t`, does: it takes at most one clock sample
(46_sequencer.md rule R278) and holds the response. -/
structure State.Proceeds (u t : State) : Prop where
  sampled : t.hist = u.hist ∨ t.hist = u.hist ++ [.clock u.now]
  response : u.HoldsResponse t

theorem State.Proceeds.ended {u t : State} (hhist : t.hist = u.hist) (hf : t.q.fsm = .idle) : u.Proceeds t :=
  ⟨.inl hhist, .inl hf⟩

theorem State.Proceeds.goesOn {u t : State} (hhist : t.hist = u.hist) (hrsp : t.rsp = u.rsp) : u.Proceeds t :=
  ⟨.inl hhist, .inr (.inl hrsp)⟩

section

variable (u : State)

/-- A latched error, on its way to the closing write-disable (46_sequencer.md rules R285, R286). -/
theorem State.latch_holdsResponse {e : Status} (he : e = .transportError ∨ e = .timeout) (fo fl : Word64) {f : FsmState}
    (hf : f = .bwWrdi ∨ f = .erWrdi) : u.HoldsResponse ((u.latch e fo fl).setFsm f) := .inr (.inr ⟨hf, he, rfl⟩)

theorem State.latch_proceeds (fo fl : Word64) {f : FsmState} (hf : f = .bwWrdi ∨ f = .erWrdi) :
    u.Proceeds ((u.latch .transportError fo fl).setFsm f) := ⟨.inl rfl, u.latch_holdsResponse (.inl rfl) fo fl hf⟩

/-- A row of the transition table proceeds as both its columns do; the cause of a failure is neither response nor
history. -/
theorem State.resume_proceeds (a : Answer) (n : Nat) {f : State → State} {k : List Byte → State → State}
    (hf : ∀ v : State, v.Proceeds (f v)) (hk : ∀ (v : State) rx, v.Proceeds (k rx v)) : u.Proceeds (u.resume a n f k) :=
  State.resume_of (P := u.Proceeds) (fun c => ⟨(hf (u.setCause c)).sampled, (hf (u.setCause c)).response⟩) (hk u _)

theorem State.callPoller_proceeds (n : Nat) (l : PollLabel) : u.Proceeds (u.callPoller n l) :=
  ⟨.inr rfl, .inr (.inl rfl)⟩

theorem State.transportFailed_proceeds : u.Proceeds u.transportFailed := .ended rfl rfl

/-! ### The poller -/

theorem State.cont_proceeds : u.Proceeds u.cont := by
  unfold State.cont
  split
  · exact .goesOn rfl rfl
  · simp only [State.contPage]
    split
    · exact .goesOn rfl rfl
    · exact .ended rfl rfl
  · simp only [State.contUnit]
    split <;> exact .goesOn rfl rfl
  · simp only [State.contErase]
    split <;> exact .goesOn rfl rfl

theorem State.failPoll_hist (e : Status) : (u.failPoll e).hist = u.hist := by
  unfold State.failPoll
  split <;> rfl

theorem State.failPoll_holdsResponse {e : Status} (he : e = .transportError ∨ e = .timeout) :
    u.HoldsResponse (u.failPoll e) := by
  unfold State.failPoll
  split
  · exact .inl rfl
  · exact .inl rfl
  · exact u.latch_holdsResponse he _ _ (.inl rfl)
  · exact u.latch_holdsResponse he _ _ (.inr rfl)

theorem State.failPoll_proceeds : u.Proceeds (u.failPoll .transportError) :=
  ⟨.inl (u.failPoll_hist _), u.failPoll_holdsResponse (.inl rfl)⟩

/-- A failed iteration takes its one clock sample (42_readiness_poller.md rule R184). -/
theorem State.decideReady_proceeds (ready : Bool) : u.Proceeds (u.decideReady ready) := by
  rcases u.decideReady_cases ready with ⟨-, h⟩ | ⟨-, -, h⟩ | ⟨-, -, h⟩ <;> rw [h]
  · exact u.cont_proceeds
  · exact ⟨.inr (u.afterSample.failPoll_hist _), u.afterSample.failPoll_holdsResponse (.inr rfl)⟩
  · exact ⟨.inr rfl, .inr (.inl rfl)⟩

theorem State.pollFlagStatus_proceeds (rx : List Byte) : u.Proceeds (u.pollFlagStatus rx) :=
  have h := (u.setReg (rx.headD 0)).decideReady_proceeds (srReady u.cfg u.q.srOld && fsrIsReady u.cfg (rx.headD 0))
  ⟨h.sampled, h.response⟩

theorem State.pollStatus_proceeds (rx : List Byte) : u.Proceeds (u.pollStatus rx) := by
  have h := (u.setSrOld (rx.headD 0)).decideReady_proceeds (srReady u.cfg (rx.headD 0))
  simp only [State.pollStatus]
  split
  · exact .goesOn rfl rfl
  · exact ⟨h.sampled, h.response⟩

/-! ### The other operations behind an exchange -/

theorem State.closeWith_proceeds (a : Answer) : u.Proceeds (u.closeWith a) := by
  unfold State.closeWith
  split
  · exact .ended rfl rfl
  · split <;> exact .ended rfl rfl

theorem State.afterLQ_proceeds (a : Option Bool) : u.Proceeds (u.afterLQ a) := by
  simp only [State.afterLQ]
  split
  · exact .ended rfl rfl
  · repeat' split
    all_goals exact .goesOn rfl rfl

theorem State.lockRead_proceeds (rx : List Byte) : u.Proceeds (u.lockRead rx) := by
  simp only [State.lockRead]
  split
  · exact .ended rfl rfl
  · exact .goesOn rfl rfl

theorem State.unlockRead_proceeds (rx : List Byte) : u.Proceeds (u.unlockRead rx) := by
  simp only [State.unlockRead]
  split
  · exact .ended rfl rfl
  · exact .goesOn rfl rfl

theorem State.quadFirstRead_proceeds (v : QuadProc) (rx : List Byte) : u.Proceeds (u.quadFirstRead v rx) := by
  rw [State.quadFirstRead]
  split <;> exact .goesOn rfl rfl

theorem State.quadReadBack_proceeds (v : QuadProc) (rx : List Byte) : u.Proceeds (u.quadReadBack v rx) := by
  simp only [State.quadReadBack]
  split <;> exact .ended rfl rfl

theorem State.identifyMatched_proceeds (i : Nat) (d : ChipDescriptor) : u.Proceeds (u.identifyMatched i d) := by
  simp only [State.identifyMatched]
  split
  · split
    · exact .ended rfl rfl
    · exact .goesOn rfl rfl
  · exact .ended rfl rfl

theorem State.identifyAnswered_proceeds (a : Answer) : u.Proceeds (u.identifyAnswered a) := by
  unfold State.identifyAnswered
  split
  · exact .ended rfl rfl
  · split
    · exact .ended rfl rfl
    · rename_i rx _
      simp only [State.identifyWith]
      split
      · exact .ended rfl rfl
      · have h := (u.setIdbuf rx).identifyMatched_proceeds
        exact ⟨(h _ _).sampled, (h _ _).response⟩

/-! ### The array frames -/

theorem State.afterArrayRead_proceeds (a : Answer) (n : Word64) : u.Proceeds (u.afterArrayRead a n) := by
  unfold State.afterArrayRead
  split
  · exact u.resume_proceeds a _ (fun _ => .ended rfl rfl) fun _ _ => .ended rfl rfl
  · exact .goesOn rfl rfl

theorem State.afterPageProgram_proceeds (a : Answer) : u.Proceeds (u.afterPageProgram a) := by
  unfold State.afterPageProgram
  split
  · exact u.resume_proceeds a _ (fun _ => .ended rfl rfl) fun v _ => v.callPoller_proceeds _ _
  · exact .goesOn rfl rfl

theorem State.afterUnitProgram_proceeds (a : Answer) : u.Proceeds (u.afterUnitProgram a) := by
  unfold State.afterUnitProgram
  split
  · exact u.resume_proceeds a _ (fun v => v.latch_proceeds _ _ (.inl rfl)) fun v _ => v.callPoller_proceeds _ _
  · exact .goesOn rfl rfl

theorem State.afterEraseFrame_proceeds (a : Answer) : u.Proceeds (u.afterEraseFrame a) := by
  unfold State.afterEraseFrame
  split
  · exact u.resume_proceeds a _ (fun v => v.latch_proceeds _ _ (.inr rfl)) fun v _ => v.callPoller_proceeds _ _
  · exact .goesOn rfl rfl

end

/-! ### The register frames -/

section

variable (s : State)

theorem execRdid_proceeds : ∃ t, execRdid s = .next t ∧ (s.sent .rdid).Proceeds t := by
  refine ⟨_, rfl, ?_⟩
  split
  · exact State.identifyAnswered_proceeds _ _
  · exact .goesOn rfl rfl

/-- RDSR, by the rest state that issues it. -/
theorem execRdsr_proceeds : ∃ t, execRdsr s = .next t ∧ (s.sent .rdsr).Proceeds t := by
  refine ⟨_, rfl, ?_⟩
  have row {k : List Byte → State → State} := State.resume_proceeds (s.sent .rdsr) (s.reply .rdsr) 1 (k := k)
    State.transportFailed_proceeds
  split
  · exact row fun _ _ => .goesOn rfl rfl
  · exact row fun v _ => v.afterLQ_proceeds _
  · exact row State.lockRead_proceeds
  · exact row State.unlockRead_proceeds
  · exact row fun _ _ => .ended rfl rfl
  · exact State.resume_proceeds _ _ _ State.failPoll_proceeds State.pollStatus_proceeds
  · exact .goesOn rfl rfl

theorem execWrsr_proceeds (p : List Byte) : ∃ t, execWrsr p s = .next t ∧ (s.sent (.wrsr p)).Proceeds t := by
  refine ⟨_, rfl, ?_⟩
  split
  case h_3 => exact .goesOn rfl rfl
  all_goals exact State.resume_proceeds _ _ _ State.transportFailed_proceeds fun _ _ => .ended rfl rfl

theorem execRdfsr_proceeds : ∃ t, execRdfsr s = .next t ∧ (s.sent .rdfsr).Proceeds t := by
  refine ⟨_, rfl, ?_⟩
  split
  · exact State.resume_proceeds _ _ _ State.failPoll_proceeds State.pollFlagStatus_proceeds
  · exact .goesOn rfl rfl

/-- WREN, by the rest state that issues it. -/
theorem execWren_proceeds : ∃ t, execWren s = .next t ∧ (s.sent .wren).Proceeds t := by
  refine ⟨_, rfl, ?_⟩
  split
  case h_2 => exact State.resume_proceeds _ _ _ (fun _ => .ended rfl rfl) fun _ _ => .goesOn rfl rfl
  case h_3 => exact State.resume_proceeds _ _ _ (fun v => v.latch_proceeds _ _ (.inl rfl)) fun _ _ => .goesOn rfl rfl
  case h_4 => exact State.resume_proceeds _ _ _ (fun v => v.latch_proceeds _ _ (.inr rfl)) fun _ _ => .goesOn rfl rfl
  case h_7 => exact .goesOn rfl rfl
  all_goals exact State.resume_proceeds _ _ _ State.transportFailed_proceeds fun _ _ => .goesOn rfl rfl

theorem execWrdi_proceeds : ∃ t, execWrdi s = .next t ∧ (s.sent .wrdi).Proceeds t := by
  refine ⟨_, rfl, ?_⟩
  split
  case h_3 => exact .goesOn rfl rfl
  all_goals exact State.closeWith_proceeds _ _

theorem execRdvr_proceeds (op : Byte) : ∃ t, execRdvr op s = .next t ∧ (s.sent (.rdvr op)).Proceeds t := by
  refine ⟨_, rfl, ?_⟩
  split
  · rename_i v _ _
    exact State.resume_proceeds _ _ _ State.transportFailed_proceeds fun u => u.quadFirstRead_proceeds v
  · rename_i v _ _
    exact State.resume_proceeds _ _ _ State.transportFailed_proceeds fun u => u.quadReadBack_proceeds v
  · exact .goesOn rfl rfl

theorem execWrvr_proceeds (op : Byte) (p : List Byte) :
    ∃ t, execWrvr op p s = .next t ∧ (s.sent (.wrvr op p)).Proceeds t := by
  refine ⟨_, rfl, ?_⟩
  split
  · exact State.resume_proceeds _ _ _ State.transportFailed_proceeds fun v _ => v.callPoller_proceeds _ _
  · exact .goesOn rfl rfl

end

/-- What a frame does after its exchange, in any rest state. -/
theorem exec_proceeds {s t : State} {i : Instr} (hi : i.isHost = false) (ht : exec i s = .next t) :
    (s.sent i).Proceeds t := by
  have of_next (h : ∃ u, exec i s = .next u ∧ (s.sent i).Proceeds u) : (s.sent i).Proceeds t := by
    obtain ⟨u, hu, hproceeds⟩ := h
    cases ht.symm.trans hu
    exact hproceeds
  cases i with
  | identify | read | write | erase | lock | unlock | geometry | reprobe | isLocked => cases hi
  | rdid => exact of_next (execRdid_proceeds s)
  | rdsr => exact of_next (execRdsr_proceeds s)
  | wrsr p => exact of_next (execWrsr_proceeds s p)
  | rdfsr => exact of_next (execRdfsr_proceeds s)
  | wren => exact of_next (execWren_proceeds s)
  | wrdi => exact of_next (execWrdi_proceeds s)
  | rdvr op => exact of_next (execRdvr_proceeds s op)
  | wrvr op p => exact of_next (execWrvr_proceeds s op p)
  | readFrame a n | readFast a n | readDual a n | readQuad a n | readQuadIo a n =>
    exact of_next ⟨_, rfl, State.afterArrayRead_proceeds _ _ _⟩
  | pp a d | ppQuad a d => exact of_next ⟨_, rfl, State.afterPageProgram_proceeds _ _⟩
  | bp a d | aaiWp a d => exact of_next ⟨_, rfl, State.afterUnitProgram_proceeds _ _⟩
  | se a | be4k a => exact of_next ⟨_, rfl, State.afterEraseFrame_proceeds _ _⟩

/-! ## A host command exchanges nothing -/

section

variable (s : State)

theorem State.whenIdle_hist {k : State → State} (hk : (k s).hist = s.hist) : (s.whenIdle k).hist = s.hist := by
  unfold State.whenIdle
  split
  · exact hk
  · rfl

theorem State.withPrecheck_hist {k : State → State} (hk : (k s).hist = s.hist) : (s.withPrecheck k).hist = s.hist := by
  unfold State.withPrecheck
  split
  · rfl
  · exact hk

theorem State.protectionHead_hist (f : FsmState) : (s.protectionHead f).hist = s.hist := by
  refine s.withPrecheck_hist ?_
  split <;> rfl

theorem State.afterLQ_hist (a : Option Bool) : (s.afterLQ a).hist = s.hist := by
  simp only [State.afterLQ]
  repeat' split
  all_goals rfl

/-- Asking the collaborator is no exchange (44_protection_codec.md rule R236). -/
theorem State.lqHead_hist : s.lqHead.hist = s.hist := by
  unfold State.lqHead
  split
  · exact s.afterLQ_hist _
  · exact s.afterLockAnswer.afterLQ_hist _
  · split
    · exact s.afterLQ_hist _
    · rfl

end

/-- The acceptance step issues no exchange (46_sequencer.md rule R279). -/
theorem exec_host_hist {s t : State} {i : Instr} (hi : i.isHost = true) (ht : exec i s = .next t) : t.hist = s.hist := by
  cases i with
  | identify off len | geometry off len => cases ht; exact s.whenIdle_hist (by dsimp only; split <;> rfl)
  | reprobe off len => cases ht; exact s.whenIdle_hist rfl
  | read off len => cases ht; exact s.whenIdle_hist (by dsimp only; split <;> rfl)
  | write off len wbuf => cases ht; exact s.whenIdle_hist (State.withPrecheck_hist _ (State.lqHead_hist _))
  | erase off len =>
    cases ht
    refine s.whenIdle_hist (State.withPrecheck_hist _ ?_)
    split
    · exact State.lqHead_hist _
    · rfl
  | lock off len | unlock off len | isLocked off len => cases ht; exact s.whenIdle_hist (State.protectionHead_hist _ _)
  | _ => cases hi

/-! ## One exchange in a step -/

/-- The history after the exchange of a frame (10_state.md rule R40). -/
theorem State.sent_hist {s : State} {i : Instr} {x : Xfer} (hx : encodeFrame s.cfg s.geom i = some x) :
    (s.sent i).hist = s.hist ++ [.xfer x (s.reply i)] := by
  simp only [State.sent, State.reply, State.exchange_of_frame hx, State.transfer_hist, State.transfer_answer]

/-- Settles O10: a host command, a reserved code and the window copy exchange nothing; a frame is its exchange and what
proceeds from it. -/
theorem oneExchangePerStep : Obligations.OneExchangePerStep := by
  intro s t h hr
  refine ⟨fun hf => ?silent, fun hidle hwin => ?frame⟩
  case silent =>
    rcases step_cases h with ⟨hreset, -⟩ | ⟨-, -, rfl⟩ | ⟨-, r, rest, i, -, hdecode, hexec⟩ | ⟨-, r, rfl⟩ | ⟨-, rfl⟩
      | ⟨hidle, hwin, -⟩
    · exact absurd (hreset.symm.trans hr) nofun
    · rfl
    · exact exec_host_hist (s := s.takeRecord) (isHost_of_decodeRecord hdecode) hexec
    · rfl
    · rfl
    · exact absurd hf (not_or.2 ⟨hidle, hwin⟩)
  case frame =>
    rcases step_busy_cases h hr hidle with ⟨hw, -⟩ | ⟨-, i, hfetch, hexec⟩
    · exact absurd hw hwin
    have hframe := State.isHost_of_fetchFrame hfetch
    obtain ⟨x, hx⟩ := exists_encodeFrame hframe s.cfg s.geom
    have hnow : (s.sent i).now = s.now := s.exchange_now i
    refine ⟨i, x, hfetch, hx, (exec_proceeds hframe hexec).sampled.imp (fun hsame => ?_) fun hsample => ?_⟩
    · rw [hsame, State.sent_hist hx]
    · rw [hsample, State.sent_hist hx, hnow, List.append_assoc]
      rfl

/-! ## The response of a running command -/

/-- Settles O13: the window copy ends its command, and a frame's exchange leaves the response. -/
theorem responseHeldWhileRunning : Obligations.ResponseHeldWhileRunning := by
  intro s t h hr hf hrunning
  rcases step_busy_cases h hr hf with ⟨-, rfl⟩ | ⟨-, i, hfetch, hexec⟩
  · exact absurd rfl hrunning
  have hresponse := (exec_proceeds (State.isHost_of_fetchFrame hfetch) hexec).response
  rw [State.HoldsResponse, State.sent_rsp] at hresponse
  rcases hresponse with hended | hsame | ⟨hclosing, herr, hlatched⟩
  · exact absurd hended hrunning
  · rw [hsame]
    exact ⟨rfl, fun hchange => absurd hchange (by simp)⟩
  · exact ⟨hlatched, fun _ => ⟨hclosing, herr⟩⟩

/-! ## Totality -/

/-- Under the invariant a negotiation's vendor has a procedure, so every rest state has its frame (46_sequencer.md rules
R276, R282). -/
theorem State.Inv.exists_fetchFrame {s : State} (h : s.Inv) (hidle : s.q.fsm ≠ .idle) (hwin : s.q.fsm ≠ .rdWin) :
    ∃ i, s.fetchFrame = some i := by
  have hrest := h.restOk
  unfold State.fetchFrame
  cases hf : s.q.fsm <;> rw [hf] at hrest
  case idle => exact absurd hf hidle
  case rdWin => exact absurd hf hwin
  case qnRd1 | qnWr | qnRd2 =>
    obtain ⟨-, -, -, v, hv⟩ := hrest
    exact ⟨_, Option.map_eq_some_iff.2 ⟨v, hv, rfl⟩⟩
  all_goals exact ⟨_, rfl⟩

/-- The acceptance step of a legal port (46_sequencer.md rule R279). -/
theorem stepIdle_next {s : State} (hp : s.portOk) : ∃ t, stepIdle s = .next t := by
  unfold stepIdle
  split
  · exact ⟨_, rfl⟩
  · rename_i r rest hport
    rcases decodeRecord_of_ok (hp r (by rw [hport]; rfl)) with ⟨i, hdecode⟩ | ⟨c, hdecode⟩ <;> rw [hdecode]
    · exact exec_next i _
    · exact ⟨_, rfl⟩

/-- Settles O19, by the three kinds of step that are left: a reset, an acceptance step, a busy one. -/
theorem stepIsTotal : Obligations.StepIsTotal := by
  intro s h hp
  cases hr : s.env.resetLine with
  | true => exact ⟨s.doReset, by simp [step, h.config, hr]⟩
  | false =>
    by_cases hidle : s.q.fsm = .idle
    · rw [step_of_idle h.config hr hidle]
      exact stepIdle_next hp
    by_cases hwin : s.q.fsm = .rdWin
    · exact ⟨s.windowStep, by simp [step, h.config, hr, stepBusy, hwin]⟩
    · obtain ⟨i, hfetch⟩ := h.exists_fetchFrame hidle hwin
      rw [step_of_frame h.config hr hfetch]
      exact exec_next i s

end Sys2Proof.Machine
end

section
/-!
PROOFS. The status reads outside the poller and the write-enables, answered: each goes on to its row's next state
(46_sequencer.md rules R282 to R287): O41, O42, O48.
-/

namespace Sys2Proof.Machine

open Sys2Proof

/-! ## What an exchange leaves of the registers read -/

@[simp] theorem State.sent_rangeLocked (s : State) (i : Instr) (b : Byte) :
    (s.sent i).rangeLocked b = s.rangeLocked b := by
  simp only [State.rangeLocked, State.sent, State.exchange_cfg, State.exchange_dev_capacity, State.exchange_q]

/-- The registers a loop starts with are read off the configuration, the device and `q`. -/
theorem State.sent_writeStart (s : State) (i : Instr) (off len : Word64) :
    (s.sent i).writeStart off len = s.writeStart off len := by
  simp only [State.writeStart, State.pageStart, State.unitStart, State.chunkAt, State.sent, State.exchange_cfg,
    State.exchange_q, State.exchange_dev_pageSize, State.exchange_dev_progVariant]

theorem State.sent_eraseStart (s : State) (i : Instr) (off len : Word64) :
    (s.sent i).eraseStart off len = s.eraseStart off len := by
  simp only [State.eraseStart, State.sent, State.exchange_q, State.exchange_dev_eraseSize]

/-! ## The status reads -/

section

variable {s : State} {b : Byte}

/-- The status byte goes to the negotiation, to UNLOCK or to IS_LOCKED (46_sequencer.md rules R282, R287). -/
theorem exec_rdsr_answered (hb : s.reply .rdsr = .ok [b]) :
    (s.q.fsm = .qnRdsr → exec .rdsr s = .next ((s.sent .rdsr).quadStatusRead [b]))
    ∧ (s.q.fsm = .ulRdsr → exec .rdsr s = .next ((s.sent .rdsr).unlockRead [b]))
    ∧ (s.q.fsm = .ilRdsr → exec .rdsr s = .next ((s.sent .rdsr).isLockedRead [b])) := by
  have hok : (s.exchange .rdsr).1 = .ok [b] := hb
  have hfull : answerFailure 1 (.ok [b]) = none := rfl
  refine ⟨fun hf => ?_, fun hf => ?_, fun hf => ?_⟩ <;>
    simp only [exec, execRdsr, State.exchange_q, hf, hok, State.resume_ok hfull, answerBytes, State.sent]

/-- A locked range ends its command (44_protection_codec.md rule R236). -/
theorem State.lockQueried_of_locked (h : s.rangeLocked b = true) : s.lockQueried [b] = s.endOutside .locked := by
  rw [State.lockQueried, List.headD_cons, h]
  exact if_pos rfl

/-- A range that is not locked goes on to its loop (44_protection_codec.md rule R236). -/
theorem State.lockQueried_of_free (h : s.rangeLocked b = false) : s.lockQueried [b] = s.afterLQ none := by
  rw [State.lockQueried, List.headD_cons, h]
  exact s.afterLQ_of_unlocked (a := some false) nofun

/-- The loop of a WRITE whose operands stand in the registers (46_sequencer.md rule R279). -/
theorem State.afterLQ_of_write (hop : s.q.op = 0x03) :
    s.afterLQ none = { s with q := s.writeStart s.q.off s.q.len } := by
  have hload : s.load 0x03 s.q.off s.q.len = s := by rw [← hop]; rfl
  rw [← State.afterLQ_load_write, hload]

/-- The loop of an ERASE whose operands stand in the registers (46_sequencer.md rule R279). -/
theorem State.afterLQ_of_erase (hop : s.q.op = 0x04) :
    s.afterLQ none = { s with q := s.eraseStart s.q.off s.q.len } := by
  have hload : s.load 0x04 s.q.off s.q.len = s := by rw [← hop]; rfl
  rw [← State.afterLQ_load_erase, hload]

end

/-- Settles O41, by the rest state; in the lock query by its answer and the command. -/
theorem rdsrQueries : Obligations.RdsrQueries := by
  intro s b hb u locked
  have hlocked : u.rangeLocked b = locked := s.sent_rangeLocked .rdsr b
  have hq : u.q = s.q := s.sent_q .rdsr
  have hrsp : u.rsp = s.rsp := s.sent_rsp .rdsr
  obtain ⟨hnegotiation, -, hisLocked⟩ := exec_rdsr_answered hb
  refine ⟨fun hf => ?payload, fun hf h => ?refused, fun hf h hop => ?write, fun hf h hop => ?erase, fun hf => ?answer⟩
  case payload =>
    rw [hnegotiation hf, ← hq]
    rfl
  case refused =>
    rw [(exec_rdsr_ok hb).1 hf, State.lockQueried_of_locked (hlocked.trans h),
      State.endOutside_of_error _ (st := .locked) nofun nofun, ← hq, ← hrsp]
  case write =>
    have hstart : u.writeStart s.q.off s.q.len = s.writeStart s.q.off s.q.len := s.sent_writeStart .rdsr _ _
    rw [(exec_rdsr_ok hb).1 hf, State.lockQueried_of_free (hlocked.trans h), State.afterLQ_of_write (by rwa [hq]), hq,
      hstart]
  case erase =>
    have hstart : u.eraseStart s.q.off s.q.len = s.eraseStart s.q.off s.q.len := s.sent_eraseStart .rdsr _ _
    rw [(exec_rdsr_ok hb).1 hf, State.lockQueried_of_free (hlocked.trans h), State.afterLQ_of_erase (by rwa [hq]), hq,
      hstart]
  case answer =>
    rw [hisLocked hf, State.isLockedRead, List.headD_cons, hlocked, State.endOk_eq, ← hq, ← hrsp]

/-! ## The codec -/

/-- The state LOCK or UNLOCK leaves its status read in: with the byte `new` to write on to `next`, or refused
(46_sequencer.md rule R287). -/
def State.codecRead (s : State) (b : Byte) (new : Option Byte) (next : FsmState) : State :=
  match new with
  | some new => { s with q := { s.q with srOld := b, srNew := new, fsm := next } }
  | none => { s with q := { s.q with srOld := b, fsm := .idle }
                     rsp := s.rsp.error .invalidArgument 0 s.q.off s.q.len }

theorem State.lockRead_eq (s : State) (b : Byte) :
    s.lockRead [b] =
      s.codecRead b (lockByte s.cfg s.dev.capacity.toNat s.q.off.toNat s.q.len.toNat b) .lkWren := by
  simp only [State.lockRead, List.headD_cons, State.setSrOld_cfg, State.setSrOld_dev, State.setSrOld_q_off,
    State.setSrOld_q_len, State.setSrOld_q_srOld]
  cases lockByte s.cfg s.dev.capacity.toNat s.q.off.toNat s.q.len.toNat b with
  | some new => rfl
  | none => exact State.endOutside_of_error _ (st := .invalidArgument) nofun nofun

theorem State.unlockRead_eq (s : State) (b : Byte) :
    s.unlockRead [b] =
      s.codecRead b
        (unlockByte s.cfg s.dev.capacity.toNat s.dev.eraseSize.toNat s.q.off.toNat s.q.len.toNat b) .ulWren := by
  simp only [State.unlockRead, List.headD_cons, State.setSrOld_cfg, State.setSrOld_dev, State.setSrOld_q_off,
    State.setSrOld_q_len, State.setSrOld_q_srOld]
  cases unlockByte s.cfg s.dev.capacity.toNat s.dev.eraseSize.toNat s.q.off.toNat s.q.len.toNat b with
  | some new => rfl
  | none => exact State.endOutside_of_error _ (st := .invalidArgument) nofun nofun

/-- Settles O42: the codec reads the configuration, the device and the operands, which the exchange leaves. -/
theorem rdsrCodec : Obligations.RdsrCodec := by
  intro s b hb u cap refused
  have hcfg : u.cfg = s.cfg := s.sent_cfg .rdsr
  have hq : u.q = s.q := s.sent_q .rdsr
  have hrsp : u.rsp = s.rsp := s.sent_rsp .rdsr
  have hcap : u.dev.capacity = s.dev.capacity := s.exchange_dev_capacity .rdsr
  have hunit : u.dev.eraseSize = s.dev.eraseSize := s.exchange_dev_eraseSize .rdsr
  have hrow (new : Option Byte) (next : FsmState) :
      u.codecRead b new next = match new with
        | some new => { u with q := { s.q with srOld := b, srNew := new, fsm := next } }
        | none => refused := by
    cases new <;> simp only [State.codecRead, refused, hq, hrsp]
  refine ⟨fun hf => ?lock, fun hf => ?unlock⟩
  case lock =>
    rw [(exec_rdsr_ok hb).2 hf, State.lockRead_eq, hcfg, hq, hcap]
    exact congrArg Host.Outcome.next (hrow _ _)
  case unlock =>
    rw [(exec_rdsr_answered hb).2.1 hf, State.unlockRead_eq, hcfg, hq, hcap, hunit]
    exact congrArg Host.Outcome.next (hrow _ _)

/-! ## The write-enables -/

/-- WREN on Ok, in each of its six states (46_sequencer.md rules R282, R284 to R287). -/
theorem exec_wren_ok {s : State} {rx : List Byte} (hrx : s.reply .wren = .ok rx) :
    (s.q.fsm = .qnWren → exec .wren s = .next ((s.sent .wren).setFsm .qnWr))
    ∧ (s.q.fsm = .wrWren → exec .wren s = .next ((s.sent .wren).setFsm .wrProg))
    ∧ (s.q.fsm = .bwWren → exec .wren s = .next (((s.sent .wren).setChunk s.unitChunk).setFsm .bwProg))
    ∧ (s.q.fsm = .erWren → exec .wren s = .next ((s.sent .wren).setFsm .erErase))
    ∧ (s.q.fsm = .lkWren → exec .wren s = .next ((s.sent .wren).setFsm .lkWrsr))
    ∧ (s.q.fsm = .ulWren → exec .wren s = .next ((s.sent .wren).setFsm .ulWrsr)) := by
  refine ⟨fun hf => ?_, fun hf => ?_, fun hf => ?_, fun hf => ?_, fun hf => ?_, fun hf => ?_⟩ <;>
    simp only [exec, execWren, State.exchange_q, hf, State.resume_silent _ (a := (s.exchange .wren).1) hrx,
      State.exchange_unitChunk, State.sent]

/-- Settles O48. -/
theorem wrenEnables : Obligations.WrenEnables := by
  intro s rx hrx u
  obtain ⟨hquad, hpage, hunit, herase, hlock, hunlock⟩ := exec_wren_ok hrx
  rw [← s.sent_q .wren]
  exact ⟨hquad, hpage, hunit, herase, hlock, hunlock⟩

end Sys2Proof.Machine
end

section
/-!
PROOFS. The poller's return into its caller's code and its failure (46_sequencer.md rules R281, R282, R284 to R286), and
the exchanges of the loops and of the poller that fail (60_exceptions.md rules R311, R321): O45, O46, O53.
-/

namespace Sys2Proof.Machine

open Sys2Proof

/-! ## The poller's return -/

/-- Where the poller returns, by the call site's label (46_sequencer.md rules R282, R284 to R286). -/
theorem State.cont_of_label (s : State) :
    (s.q.ret = .qnPoll → s.cont = s.setFsm .qnRd2) ∧ (s.q.ret = .wrPoll → s.cont = s.contPage)
    ∧ (s.q.ret = .bwPoll → s.cont = s.contUnit) ∧ (s.q.ret = .erPoll → s.cont = s.contErase) := by
  refine ⟨fun h => ?_, fun h => ?_, fun h => ?_, fun h => ?_⟩ <;> simp only [State.cont, h]

/-- Settles O45, by the call site's label and by whether bytes are left. -/
theorem pollerReturns : Obligations.PollerReturns := by
  intro s cur n left moved ecur en
  obtain ⟨hquad, hpage, hunit, herase⟩ := s.cont_of_label
  refine ⟨hquad, fun hret hleft => (hpage hret).trans (if_pos hleft), fun hret hend => ?pageEnd,
    fun hret hleft => (hunit hret).trans (if_pos hleft), fun hret hend => (hunit hret).trans (if_neg hend),
    fun hret => (herase hret).trans ?erase⟩
  case pageEnd =>
    calc s.cont
      _ = (s.advance s.q.chunk).endOk n := (hpage hret).trans (if_neg hend)
      _ = _ := State.endOk_eq _ _
  case erase =>
    by_cases hleft : en.toNat < s.q.len.toNat
    · rw [if_pos hleft]
      exact if_pos hleft
    · rw [if_neg hleft]
      exact if_neg hleft

/-! ## The poller's failure -/

/-- The caller's error path, by the call site's label (46_sequencer.md rules R282, R284 to R286). -/
theorem State.failPoll_of_label (s : State) (e : Status) :
    (s.q.ret = .qnPoll → s.failPoll e = s.endOutside e) ∧ (s.q.ret = .wrPoll → s.failPoll e = s.endInChunk e)
    ∧ (s.q.ret = .bwPoll → s.failPoll e = (s.latch e s.q.cur s.q.chunk).setFsm .bwWrdi)
    ∧ (s.q.ret = .erPoll → s.failPoll e = (s.latch e s.q.cur s.q.chunk).setFsm .erWrdi) := by
  refine ⟨fun h => ?_, fun h => ?_, fun h => ?_, fun h => ?_⟩ <;> simp only [State.failPoll, h]

/-- An error's end takes `q.CAUSE` only under `TransportError` (46_sequencer.md rule R280). -/
theorem State.endWith_of_ne_ok (s : State) {e : Status} (h : e ≠ .ok) (n fo fl : Word64) :
    s.endWith e n fo fl = { s with
      q := { s.q with fsm := .idle }
      rsp := { s.rsp.error e n fo fl with cause := if e = .transportError then s.q.cause else s.rsp.cause } } := by
  simp only [State.endWith, Rsp.error, h, if_false]

/-- Settles O46, by the call site's label. -/
theorem pollerFails : Obligations.PollerFails := by
  intro s e he cause
  have hne : e ≠ .ok := by rcases he with rfl | rfl <;> nofun
  obtain ⟨hquad, hpage, hunit, herase⟩ := s.failPoll_of_label e
  exact ⟨fun hret => (hquad hret).trans (s.endWith_of_ne_ok hne _ _ _),
    fun hret => (hpage hret).trans (s.endWith_of_ne_ok hne _ _ _), hunit, herase⟩

/-! ## The exchanges that fail -/

section

variable {s : State} {i : Instr} {cause : Cause} {addr : Word64} {data : List Byte}

/-- The write-enable and the program frame of a page chunk (46_sequencer.md rule R284). -/
theorem exec_pageLoop_failed (hfail : answerFailure 0 (s.reply i) = some cause)
    (h : (s.q.fsm = .wrWren ∧ i = .wren) ∨ (s.q.fsm = .wrProg ∧ (i = .pp addr data ∨ i = .ppQuad addr data))) :
    exec i s = .next (((s.sent i).setCause cause).endInChunk .transportError) := by
  rcases h with ⟨hf, rfl⟩ | ⟨hf, rfl | rfl⟩
  · simp only [exec, execWren, State.exchange_q, hf, State.resume_err (a := (s.exchange .wren).1) hfail, State.sent]
  · simp only [exec, execPp, State.afterPageProgram, State.exchange_q, hf,
      State.resume_err (a := (s.exchange (.pp addr data)).1) hfail, State.sent]
  · simp only [exec, execPpQuad, State.afterPageProgram, State.exchange_q, hf,
      State.resume_err (a := (s.exchange (.ppQuad addr data)).1) hfail, State.sent]

/-- Byte mode's write-enable, before its first unit (46_sequencer.md rule R285). -/
theorem exec_unitStart_failed (hfail : answerFailure 0 (s.reply .wren) = some cause) (hf : s.q.fsm = .bwWren) :
    exec .wren s =
      .next ((((s.sent .wren).setCause cause).latch .transportError s.q.cur s.q.len).setFsm .bwWrdi) := by
  simp only [exec, execWren, State.exchange_q, hf, State.resume_err (a := (s.exchange .wren).1) hfail, State.sent,
    State.setCause_q_cur, State.setCause_q_len]

/-- The frame of a unit of byte mode (46_sequencer.md rule R285). -/
theorem exec_unitProgram_failed (hfail : answerFailure 0 (s.reply i) = some cause) (hf : s.q.fsm = .bwProg)
    (hi : i = .bp addr data ∨ i = .aaiWp addr data) :
    exec i s = .next ((((s.sent i).setCause cause).latch .transportError s.q.cur s.q.chunk).setFsm .bwWrdi) := by
  have hafter : (s.sent i).afterUnitProgram (s.reply i) =
      (((s.sent i).setCause cause).latch .transportError s.q.cur s.q.chunk).setFsm .bwWrdi := by
    simp only [State.afterUnitProgram, State.sent_q, hf, State.resume_err hfail, State.setCause_q_cur,
      State.setCause_q_chunk]
  rw [← hafter]
  rcases hi with rfl | rfl <;> rfl

/-- The write-enable and the erase frame of a unit (46_sequencer.md rule R286). -/
theorem exec_eraseLoop_failed (hfail : answerFailure 0 (s.reply i) = some cause)
    (h : (s.q.fsm = .erWren ∧ i = .wren) ∨ (s.q.fsm = .erErase ∧ (i = .se addr ∨ i = .be4k addr))) :
    exec i s = .next ((((s.sent i).setCause cause).latch .transportError s.q.cur s.q.chunk).setFsm .erWrdi) := by
  rcases h with ⟨hf, rfl⟩ | ⟨hf, hi⟩
  · simp only [exec, execWren, State.exchange_q, hf, State.resume_err (a := (s.exchange .wren).1) hfail, State.sent,
      State.setCause_q_cur, State.setCause_q_chunk]
  · have hafter : (s.sent i).afterEraseFrame (s.reply i) =
        (((s.sent i).setCause cause).latch .transportError s.q.cur s.q.chunk).setFsm .erWrdi := by
      simp only [State.afterEraseFrame, State.sent_q, hf, State.resume_err hfail, State.setCause_q_cur,
        State.setCause_q_chunk]
    rw [← hafter]
    rcases hi with rfl | rfl <;> rfl

/-- The poller's two reads (46_sequencer.md rule R288). -/
theorem exec_poll_failed (hfail : answerFailure 1 (s.reply i) = some cause)
    (h : (s.q.fsm = .plRdsr ∧ i = .rdsr) ∨ (s.q.fsm = .plRdfsr ∧ i = .rdfsr)) :
    exec i s = .next (((s.sent i).setCause cause).failPoll .transportError) := by
  rcases h with ⟨hf, rfl⟩ | ⟨hf, rfl⟩
  · simp only [exec, execRdsr, State.exchange_q, hf, State.resume_err (a := (s.exchange .rdsr).1) hfail, State.sent]
  · simp only [exec, execRdfsr, State.exchange_q, hf, State.resume_err (a := (s.exchange .rdfsr).1) hfail, State.sent]

end

/-- Settles O53: every "on Err" column of the loops and of the poller, with `q` and `rsp` as they were before the
exchange. -/
theorem failuresInLoops : Obligations.FailuresInLoops := by
  intro s i polling
  refine ⟨?failed, fun hshort hpoll => ?short⟩
  case failed =>
    intro c hc cause latched
    have hfails (n : Nat) : answerFailure n (s.reply i) = some cause := answerFailure_of_failed (.inl ⟨c, hc, rfl⟩)
    have hlatched (f : FsmState) (n : Word64) :
        (((s.sent i).setCause cause).latch .transportError s.q.cur n).setFsm f = latched f n := by
      simp only [latched]
      rw [← s.sent_q i, ← s.sent_rsp i]
      rfl
    refine ⟨fun addr data h => ?page, fun hf hi => ?unitStart, fun addr data hf hi => ?unit, fun addr h => ?erase,
      fun hpoll => ?poll⟩
    case page =>
      rw [exec_pageLoop_failed (hfails 0) h, ← s.sent_q i, ← s.sent_rsp i]
      rfl
    case unitStart =>
      subst hi
      rw [exec_unitStart_failed (hfails 0) hf, hlatched]
    case unit => rw [exec_unitProgram_failed (hfails 0) hf hi, hlatched]
    case erase => rw [exec_eraseLoop_failed (hfails 0) h, hlatched]
    case poll =>
      rw [exec_poll_failed (hfails 1) hpoll, ← s.sent_q i]
      rfl
  case short =>
    have hfails : answerFailure 1 (s.reply i) = some .short := by rw [hshort]; rfl
    rw [exec_poll_failed hfails hpoll, ← s.sent_q i]
    rfl

end Sys2Proof.Machine
end

section
/-!
PROOFS. The ends `Precheck()` makes, for the six commands that start with it (60_exceptions.md rules R312 to R315): O25.
-/

namespace Sys2Proof.Machine

open Sys2Proof

/-! ## The end in the acceptance step -/

section

variable {s : State} {off len : Word64} {st : Status}

/-- The end outside the loops, from a state `u` that differs from `s` in no more than the command's registers, its buffers
and the count of free values (60_exceptions.md rule R311). -/
theorem State.endedAtOnce_endOutside {u : State} (hdev : u.dev = s.dev) (hcfg : u.cfg = s.cfg) (hhist : u.hist = s.hist)
    (htransport : u.env.transport = s.env.transport) (st : Status) :
    s.endedAtOnce (u.endOutside st) st u.q.off u.q.len :=
  ⟨rfl, rfl, rfl, fun herror => State.endWith_error herror 0 u.q.off u.q.len, hdev, hcfg, hhist, htransport⟩

/-- The head of every command but READ: `Precheck()` on the loaded operands ends the command (60_exceptions.md rule
R315). -/
theorem State.load_withPrecheck_endedAtOnce {code : Byte} (hp : (s.load code off len).precheck = some st)
    (k : State → State) : s.endedAtOnce ((s.load code off len).withPrecheck k) st off len := by
  rw [State.withPrecheck, hp]
  exact State.endedAtOnce_endOutside (u := s.load code off len) rfl rfl rfl rfl st

theorem State.whenIdle_endedAtOnce {k : State → State} (hf : s.q.fsm = .idle) (hk : s.endedAtOnce (k s) st off len) :
    s.endedAtOnce (s.whenIdle k) st off len := by
  rwa [State.whenIdle_of_idle hf]

/-- READ's end also settles `rsp.rbuf`: no byte for a zero-length READ, unspecified for a refused one
(43_program_erase_read.md rule R191). -/
theorem exec_read_endedAtOnce (hf : s.q.fsm = .idle) (hp : (s.load 0x02 off len).precheck = some st) :
    ∃ t, exec (.read off len) s = .next t ∧ s.endedAtOnce t st off len := by
  refine ⟨_, rfl, State.whenIdle_endedAtOnce hf ?_⟩
  dsimp only
  rw [hp]
  split
  case h_1 hok =>
    cases hok
    exact State.endedAtOnce_endOutside (u := (s.load 0x02 off len).setRbuf []) rfl rfl rfl rfl .ok
  case h_2 hst =>
    cases hst
    exact State.endedAtOnce_endOutside (u := (s.load 0x02 off len).spoilRbuf) rfl rfl rfl rfl st
  case h_3 hnone => cases hnone

/-- Where `Precheck()` ends a command, its acceptance step is that end, with the record's operands as the failure fields
(60_exceptions.md rules R311, R315). -/
theorem exec_endedAtOnce_of_precheck {i : Instr} (hf : s.q.fsm = .idle) (hi : arrayCommand i = some (off, len))
    (hp : ∀ code, (s.load code off len).precheck = some st) :
    ∃ t, exec i s = .next t ∧ s.endedAtOnce t st off len := by
  have ended (code : Byte) (k : State → State) :
      s.endedAtOnce (s.whenIdle fun s => (s.load code off len).withPrecheck k) st off len :=
    State.whenIdle_endedAtOnce hf (State.load_withPrecheck_endedAtOnce (hp code) k)
  cases i with
  | read => cases hi; exact exec_read_endedAtOnce hf (hp 0x02)
  | write _ _ buf =>
    cases hi
    have hbuf : ((s.holdBuffer buf).load 0x03 off len).precheck = some st := hp 0x03
    exact ⟨_, rfl, State.whenIdle_endedAtOnce hf (State.load_withPrecheck_endedAtOnce hbuf State.lqHead)⟩
  | erase => cases hi; exact ⟨_, rfl, ended 0x04 _⟩
  | lock => cases hi; exact ⟨_, rfl, ended 0x05 _⟩
  | unlock => cases hi; exact ⟨_, rfl, ended 0x06 _⟩
  | isLocked => cases hi; exact ⟨_, rfl, ended 0x09 _⟩
  | _ => cases hi

end

/-! ## The range -/

/-- A range that leaves the device is what `Precheck()` answers `InvalidArgument` to, the sum taken without overflow
(60_exceptions.md rule R313). -/
theorem State.precheck_of_outOfRange {s : State} (hid : s.dev.identified = true) (hlen : s.q.len ≠ 0)
    (hrange : s.dev.capacity.toNat < s.q.off.toNat + s.q.len.toNat) : s.precheck = some .invalidArgument := by
  rcases s.precheck_cases with ⟨h, -⟩ | ⟨-, h, -⟩ | ⟨-, -, -, h⟩ | ⟨⟨-, -, hinside⟩, -⟩
  · exact absurd (hid.symm.trans h) nofun
  · exact absurd h hlen
  · exact h
  · exact absurd hrange (Nat.not_lt.2 hinside)

/-- Settles O25: both halves of R313's test say that the range's end is beyond the capacity. -/
theorem outOfRangeRefused : Obligations.OutOfRangeRefused := by
  intro s i off len hf hid hi hlen hrange
  have hbeyond : s.dev.capacity.toNat < off.toNat + len.toNat := by omega
  exact exec_endedAtOnce_of_precheck hf hi fun code =>
    State.precheck_of_outOfRange (s := s.load code off len) hid hlen hbeyond

end Sys2Proof.Machine
end

section
/-!
PROOFS. The host commands of the upward interface (30_encoding.md rules R91 to R93, R96): which codes decode and to what
(O4), and that a serialised command is read back, with the bytes after it (O2).
-/

namespace Sys2Proof

/-! ## Records, by their code -/

/-- A record refused as reserved bears that code, and the code names no command (30_encoding.md rule R96). -/
theorem code_of_decodeRecord_reservedCode {r : CommandRecord} {c : Byte}
    (h : decodeRecord r = .error (.reservedCode c)) : ¬ (1 ≤ r.code.toNat ∧ r.code.toNat ≤ 9) := by
  unfold decodeRecord at h
  split at h
  case h_3 => split at h <;> cases h
  case h_10 h1 h2 h3 h4 h5 h6 h7 h8 h9 =>
    simp only [imp_false, ← BitVec.toNat_inj, BitVec.toNat_ofNat] at h1 h2 h3 h4 h5 h6 h7 h8 h9
    omega
  all_goals cases h

/-- A code that names no command is refused by that name, whatever else the record holds (30_encoding.md rule R96). -/
theorem decodeRecord_of_reserved {r : CommandRecord} (h : ¬ (1 ≤ r.code.toNat ∧ r.code.toNat ≤ 9)) :
    decodeRecord r = .error (.reservedCode r.code) := by
  unfold decodeRecord
  split
  case h_10 => rfl
  all_goals
    rename_i hcode
    rw [hcode] at h
    exact absurd (by decide) h

/-- What a record that decodes says: one of the nine codes, and the buffer of a WRITE has its length (30_encoding.md rules
R91, R93). -/
theorem code_of_decodeRecord {r : CommandRecord} {i : Instr} (h : decodeRecord r = .ok i) :
    (1 ≤ r.code.toNat ∧ r.code.toNat ≤ 9) ∧ r.ok := by
  refine ⟨?_, fun hcode => ?_⟩
  · by_contra hreserved
    cases h.symm.trans (decodeRecord_of_reserved hreserved)
  · by_contra hlen
    cases h.symm.trans (Machine.decodeRecord_of_bad_buffer hcode hlen)

/-- The command a record decodes to carries the record's operands (30_encoding.md rules R91, R92). -/
theorem encodeRecord_of_decodeRecord {r : CommandRecord} {i : Instr} (h : decodeRecord r = .ok i) :
    encodeRecord i = some (commandRecord r.code r.offset r.len (if r.code = 0x03 then r.wbuf else [])) := by
  unfold decodeRecord at h
  split at h
  case h_3 hcode =>
    split at h
    · cases h
      rw [hcode]
      rfl
    · cases h
  case h_10 => cases h
  all_goals
    rename_i hcode
    cases h
    rw [hcode]
    rfl

/-- Settles O4: a record of format H decodes or its code is reserved, and never both. -/
theorem recordDecodesByCode : Obligations.RecordDecodesByCode := by
  intro r
  refine ⟨⟨fun ⟨i, hi⟩ => ?named, fun ⟨hlow, hhigh, hok⟩ => ?decodes⟩, fun i => encodeRecord_of_decodeRecord,
    decodeRecord_of_reserved⟩
  case named =>
    obtain ⟨⟨hlow, hhigh⟩, hok⟩ := code_of_decodeRecord hi
    exact ⟨hlow, hhigh, hok⟩
  case decodes =>
    refine (decodeRecord_of_ok hok).resolve_right fun ⟨c, hc⟩ => ?_
    exact code_of_decodeRecord_reservedCode hc ⟨hlow, hhigh⟩

/-! ## Records as bytes -/

/-- The record of a well-formed host command is one of format H, and only a WRITE's brings a buffer (30_encoding.md rule
R91). -/
theorem encodeRecord_ok {g : FrameGeom} {i : Instr} {r : CommandRecord} (hwf : i.wf g = true)
    (h : encodeRecord i = some r) : r.ok ∧ (r.code ≠ 0x03 → r.wbuf = []) := by
  have hcode := Laws.OneInterface.commandRecord_code
  cases i
  case write =>
    cases h
    exact ⟨fun _ => beq_iff_eq.1 hwf, fun hne => absurd (hcode _ _ _ _) hne⟩
  case identify | read | erase | lock | unlock | geometry | reprobe | isLocked =>
    cases h
    exact ⟨fun h3 => absurd ((hcode _ _ _ _).symm.trans h3) (by decide), fun _ => rfl⟩
  all_goals cases h

/-- Three words are read back from their bytes; the third one says how much of the rest is the buffer of a WRITE
(30_encoding.md rule R91). -/
theorem recordOfBytes_words (word0 offset len : Word64) (tail : List Byte) :
    recordOfBytes (bytesLE word0.toNat 8 ++ (bytesLE offset.toNat 8 ++ (bytesLE len.toNat 8 ++ tail))) =
      if word0.setWidth 8 = 0x03#8 then
        if tail.length < len.toNat then .error .truncated
        else .ok (⟨word0, offset, len, tail.take len.toNat⟩, tail.drop len.toNat)
      else .ok (⟨word0, offset, len, []⟩, tail) := by
  have hlong : ¬ (bytesLE word0.toNat 8 ++ (bytesLE offset.toNat 8 ++ (bytesLE len.toNat 8 ++ tail))).length < 24 := by
    simp only [List.length_append, bytesLE_length]
    omega
  have hdrop (v n : Nat) (h : 8 ≤ n) : (bytesLE v 8).drop n = [] :=
    List.drop_of_length_le ((bytesLE_length v 8).trans_le h)
  rw [recordOfBytes, if_neg hlong]
  simp [List.drop_append, hdrop, word64_of_bytesLE]

/-- A record is read back from its bytes, with the bytes after it (30_encoding.md rule R91). -/
theorem recordOfBytes_bytesOfRecord {r : CommandRecord} (hok : r.ok) (hbuf : r.code ≠ 0x03 → r.wbuf = [])
    (rest : List Byte) : recordOfBytes (bytesOfRecord r ++ rest) = .ok (r, rest) := by
  rw [bytesOfRecord, List.append_assoc, List.append_assoc, List.append_assoc, recordOfBytes_words]
  by_cases hcode : r.word0.setWidth 8 = 0x03#8
  case pos =>
    have hlen : r.wbuf.length = r.len.toNat := hok hcode
    have henough : ¬ (r.wbuf ++ rest).length < r.len.toNat := by
      rw [List.length_append]
      omega
    rw [if_pos hcode, if_neg henough, List.take_left' hlen, List.drop_left' hlen]
  case neg =>
    have hnone : r.wbuf = [] := hbuf hcode
    rw [if_neg hcode, hnone, List.nil_append, ← hnone]

/-- Only a host command has bytes (30_encoding.md rule R92). -/
theorem encodeBytes_isSome (i : Instr) : (encodeBytes i).isSome = i.isHost := by
  cases i <;> rfl

/-- Settles O2: the bytes give the record back, and the record the command. -/
theorem hostBytesRoundTrip : Obligations.HostBytesRoundTrip := by
  refine ⟨encodeBytes_isSome, fun g i bs rest hwf hbytes => ?_⟩
  obtain ⟨r, hr, rfl⟩ := Option.map_eq_some_iff.1 hbytes
  obtain ⟨hok, hbuf⟩ := encodeRecord_ok hwf hr
  simp only [decodeBytes, recordOfBytes_bytesOfRecord hok hbuf, Machine.decodeRecord_of_encodeRecord hr hok]

end Sys2Proof
end

section
/-!
PROOFS. The step's dispatch (46_sequencer.md rules R277, R279; 70_reset_and_hazards.md rules R340, R341, R343): a reset comes
first (O16); an idle controller runs the command at the port (O6) or answers a reserved code (O14); a busy one runs its
state's frame or its window copy (O7).
-/

namespace Sys2Proof.Machine

open Sys2Proof

/-! ## Reset -/

/-- A reset that has arrived is taken before anything else (70_reset_and_hazards.md rule R343). -/
theorem step_of_reset {s : State} (hc : s.cfg.wf = true) (hr : s.env.resetLine = true) : step s = .next s.doReset := by
  simp [step, hc, hr]

/-- Settles O16: what `doReset` keeps is the configuration and the environment. -/
theorem resetAbandonsCommand : Obligations.ResetAbandonsCommand :=
  fun s hc hr => ⟨s.doReset, step_of_reset hc hr, rfl, rfl, rfl, rfl, rfl⟩

/-! ## The acceptance step -/

/-- The record at the port is gone once it is taken (30_encoding.md rule R90). -/
theorem State.takeRecord_of_port {s : State} {r : CommandRecord} {rest : List CommandRecord}
    (hport : s.env.port = r :: rest) : s.takeRecord = { s with env := { s.env with port := rest } } := by
  rw [State.takeRecord, hport, List.tail_cons]

/-- Settles O6. -/
theorem stepRunsCommand : Obligations.StepRunsCommand := by
  intro s hc hr hf
  refine ⟨fun hport => ?empty, fun r rest i hport hdecode => ?record⟩
  case empty =>
    rw [step_of_idle hc hr hf]
    simp only [stepIdle, hport]
  case record => rw [step_of_record hc hr hf hport hdecode, State.takeRecord_of_port hport]

/-- A record refused as reserved is accepted and answered at once (30_encoding.md rule R96). -/
theorem step_of_reserved {s : State} {r : CommandRecord} {rest : List CommandRecord} {c : Byte} (hc : s.cfg.wf = true)
    (hr : s.env.resetLine = false) (hf : s.q.fsm = .idle) (hport : s.env.port = r :: rest)
    (hdecode : decodeRecord r = .error (.reservedCode c)) : step s = .next (s.takeRecord.acceptReserved r) := by
  rw [step_of_idle hc hr hf]
  simp only [stepIdle, hport, hdecode]

/-- Settles O14: the reserved codes are those that name no command; the sequencer stays in `S_IDLE`. -/
theorem reservedCodeUnsupported : Obligations.ReservedCodeUnsupported := by
  intro s r rest hc hr hf hport hcode
  have hreserved : ¬ (1 ≤ r.code.toNat ∧ r.code.toNat ≤ 9) := by
    rcases hcode with h0 | hhigh
    · rw [h0]
      decide
    · exact fun ⟨_, hlow⟩ => absurd (Nat.le_trans hhigh hlow) (by decide)
  rw [step_of_reserved hc hr hf hport (decodeRecord_of_reserved hreserved), State.takeRecord_of_port hport,
    State.acceptReserved, State.endOutside_of_error _ (st := .unsupported) nofun nofun, ← hf]
  rfl

/-! ## The step of a busy sequencer -/

/-- The step of `S_RD_WIN` is its copy (46_sequencer.md rule R283). -/
theorem step_of_rdWin {s : State} (hc : s.cfg.wf = true) (hr : s.env.resetLine = false) (hf : s.q.fsm = .rdWin) :
    step s = .next s.windowStep := by
  simp [step, hc, hr, stepBusy, hf]

/-- Settles O7. -/
theorem stepRunsFrame : Obligations.StepRunsFrame := by
  intro s hc hr _
  refine ⟨fun i => step_of_frame hc hr, fun hf => ?copy⟩
  case copy =>
    rw [step_of_rdWin hc hr hf, State.windowStep, State.endOk_eq]
    rfl

end Sys2Proof.Machine
end

section
/-!
PROOFS. The host commands whose acceptance step ends them: the ends that `Precheck()` makes (O23, O24), a chip without
protection bits (O27), GEOMETRY (O29) and REPROBE (O30).
-/

namespace Sys2Proof.Machine

open Sys2Proof

/-! ## The ends of the common head -/

/-- `NoDevice` is tested first (60_exceptions.md rule R312). -/
theorem State.precheck_of_unidentified {s : State} (hid : s.dev.identified = false) : s.precheck = some .noDevice :=
  if_pos hid

/-- A zero length succeeds before the offset is looked at (60_exceptions.md rule R314). -/
theorem State.precheck_of_zeroLength {s : State} (hid : s.dev.identified = true) (hlen : s.q.len = 0) :
    s.precheck = some .ok := by
  simp [State.precheck, hid, hlen]

/-- GEOMETRY, by the flag (41_identification.md rule R172). -/
theorem exec_geometry_of_idle {s : State} (hf : s.q.fsm = .idle) (off len : Word64) :
    exec (.geometry off len) s = .next (if s.dev.identified then
      ((s.load 0x07 off len).setGeometry s.dev.capacity s.dev.eraseSize s.dev.pageSize).endOk 0
      else (s.load 0x07 off len).endOutside .noDevice) := by
  rw [exec, execGeometry, State.whenIdle_of_idle hf]
  rfl

/-- Settles O23: `Precheck()` for the six array commands, GEOMETRY's own test for it. -/
theorem noDeviceFirst : Obligations.NoDeviceFirst := by
  intro s i hf hid
  refine ⟨fun off len hi => ?array, fun off len hi => ?geometry⟩
  case array =>
    exact exec_endedAtOnce_of_precheck hf hi fun code => State.precheck_of_unidentified (s := s.load code off len) hid
  case geometry =>
    subst hi
    refine ⟨_, exec_geometry_of_idle hf off len, ?_⟩
    rw [if_neg (by simp [hid])]
    exact State.endedAtOnce_endOutside (u := s.load 0x07 off len) rfl rfl rfl rfl .noDevice

/-- Settles O24. -/
theorem zeroLengthSucceeds : Obligations.ZeroLengthSucceeds := fun s _ off hf hid hi =>
  exec_endedAtOnce_of_precheck hf hi fun code => State.precheck_of_zeroLength (s := s.load code off 0) hid rfl

/-! ## A chip without protection bits -/

/-- Behind `Precheck()` the head of the three codec commands refuses a chip without protection bits
(44_protection_codec.md rule R254). -/
theorem State.protectionHead_of_noBits {s : State} (hr : s.rangeOk) (hv : s.dev.protVariant = .none) (f : FsmState) :
    s.protectionHead f = s.endOutside .unsupported := by
  rw [State.protectionHead, State.withPrecheck_of_rangeOk hr, hv]

/-- Settles O27: the three commands share their head. -/
theorem noProtectionBitsUnsupported : Obligations.NoProtectionBitsUnsupported := by
  intro s i off len hf hid hv hi hlen hrange
  have hhead (code : Byte) (f : FsmState) :
      s.endedAtOnce (s.whenIdle fun s => (s.load code off len).protectionHead f) .unsupported off len := by
    refine State.whenIdle_endedAtOnce hf ?_
    rw [State.protectionHead_of_noBits (State.load_rangeOk code hid hlen hrange) hv]
    exact State.endedAtOnce_endOutside (u := s.load code off len) rfl rfl rfl rfl .unsupported
  rcases hi with rfl | rfl | rfl
  · exact ⟨_, rfl, hhead 0x05 .lkRdsr⟩
  · exact ⟨_, rfl, hhead 0x06 .ulRdsr⟩
  · exact ⟨_, rfl, hhead 0x09 .ilRdsr⟩

/-! ## GEOMETRY and REPROBE -/

/-- Settles O29. -/
theorem geometryAnswers : Obligations.GeometryAnswers := by
  intro s off len hf hid
  rw [exec_geometry_of_idle hf, if_pos hid, State.endOk_eq]
  rfl

/-- Settles O30. -/
theorem reprobeForgets : Obligations.ReprobeForgets := by
  intro s off len hf
  rw [exec, execReprobe, State.whenIdle_of_idle hf, State.endOk_eq]
  rfl

end Sys2Proof.Machine
end

section
/-!
PROOFS. The closing write-disable of byte mode and of erase (43_program_erase_read.md rules R205, R211; 60_exceptions.md rule
R329): O49.
-/

namespace Sys2Proof.Machine

open Sys2Proof

/-- In both closing states the frame is its exchange, and the latched error and the answer decide (46_sequencer.md rules
R285, R286). -/
theorem exec_wrdi_of_closing {s : State} (hf : s.q.fsm = .bwWrdi ∨ s.q.fsm = .erWrdi) :
    exec .wrdi s = .next ((s.sent .wrdi).closeWith (s.reply .wrdi)) := by
  rcases hf with hf | hf <;> simp only [exec, execWrdi, State.exchange_q, hf, State.sent, State.reply]

section

variable {s : State}

/-- A latched error is the one reported, with the failure fields as the latch wrote them (46_sequencer.md rule R280). -/
theorem State.closeWith_of_latched (herr : s.q.err ≠ .ok) (a : Answer) :
    s.closeWith a = { s with
      q := { s.q with fsm := .idle }
      rsp := { s.rsp with status := s.q.err, count := s.q.doneBytes,
                          cause := if s.q.err = .transportError then s.q.cause else s.rsp.cause } } := by
  rw [State.closeWith, if_pos herr, State.endLatched, State.endWith_of_ne_ok s herr]
  rfl

/-- With no error latched a failed write-disable is one itself, with the full count (43_program_erase_read.md rule R205). -/
theorem State.closeWith_err (herr : s.q.err = .ok) (c : TransportCause) :
    s.closeWith (.err c) = { s with
      q := { s.q with cause := .transport c, fsm := .idle }
      rsp := s.rsp.transportError (.transport c) s.q.doneBytes s.q.off s.q.len } :=
  if_neg (not_not.2 herr)

/-- With no error at all the command succeeds (43_program_erase_read.md rule R205). -/
theorem State.closeWith_ok (herr : s.q.err = .ok) (rx : List Byte) :
    s.closeWith (.ok rx) = { s with q := { s.q with fsm := .idle }, rsp := s.rsp.success s.q.doneBytes } := by
  rw [State.closeWith, if_neg (not_not.2 herr), answerFailure_zero_ok]
  exact s.endOk_eq _

end

/-- Settles O49, by the latched error and the answer; the exchange leaves `q` and `rsp`. -/
theorem wrdiCloses : Obligations.WrdiCloses := by
  intro s hf u
  have hexec : exec .wrdi s = .next (u.closeWith (s.reply .wrdi)) := exec_wrdi_of_closing hf
  rw [hexec, ← s.sent_q .wrdi, ← s.sent_rsp .wrdi]
  refine ⟨fun herr => ?latched, fun c herr hc => ?failed, fun rx herr hrx => ?closed⟩
  case latched => rw [State.closeWith_of_latched herr]
  case failed => rw [hc, State.closeWith_err herr]
  case closed => rw [hrx, State.closeWith_ok herr]

end Sys2Proof.Machine
end

section
/-!
PROOFS. The derived fields that rest on the spec's own decisions (41_identification.md rules R154, R157, R158, R160, R163):
O37.
-/

namespace Sys2Proof.Machine

open Sys2Proof

/-! ## The page size -/

/-- The number of two response bytes, most significant first (20_memory.md rule R68). -/
theorem code16_toNat (hi lo : Byte) : (code16 hi lo).toNat = 256 * hi.toNat + lo.toNat := by
  rw [code16, BitVec.toNat_append, ← Nat.shiftLeft_add_eq_or_of_lt lo.isLt, Nat.shiftLeft_eq, Nat.mul_comm]

theorem code16_eq_iff (hi lo : Byte) (c : Code16) : code16 hi lo = c ↔ 256 * hi.toNat + lo.toNat = c.toNat := by
  rw [← BitVec.toNat_inj, code16_toNat]

/-- When the page-size quirk fires (41_identification.md rule R158). -/
theorem pageQuirk_iff (c : Config) (r : List Byte) :
    pageQuirk c r = true ↔ 5 ≤ c.idMaxLen
      ∧ 256 * (r.getD 3 0).toNat + (r.getD 4 0).toNat = c.pageQuirkExt.toNat
      ∧ 256 * (r.getD 1 0).toNat + (r.getD 2 0).toNat ≠ c.pageQuirkExcept.1.toNat
      ∧ 256 * (r.getD 1 0).toNat + (r.getD 2 0).toNat ≠ c.pageQuirkExcept.2.toNat := by
  simp only [pageQuirk, Bool.and_eq_true, decide_eq_true_eq, beq_iff_eq, Bool.not_eq_true', Bool.or_eq_false_iff,
    beq_eq_false_iff_ne, code16_eq_iff, ne_eq, and_assoc]

/-- An effective page that fits its register is kept (41_identification.md rule R158). -/
theorem deriveDev_pageSize {c : Config} {d : ChipDescriptor} {r : List Byte} (h : derivedPageSize c d r < 2 ^ 64) (i : Nat)
    (old : Dev) : (deriveDev c i d r old).pageSize.toNat = derivedPageSize c d r := by
  rw [show (deriveDev c i d r old).pageSize = pageWord (derivedPageSize c d r) from rfl, pageWord_of_lt h]
  exact (BitVec.toNat_ofNat _ _).trans (Nat.mod_eq_of_lt h)

/-! ## The dummy cycles and the erase unit -/

theorem dummyCycles_eq (o : ReadOpcode) :
    dummyCycles o = if o = .readQuadIo then 16 else if o = .read then 0 else 8 := by
  cases o <;> rfl

theorem use4kErase_iff (c : Config) (d : ChipDescriptor) :
    use4kErase c d = true ↔ d.flags.sect4k = true ∧ c.use4k = true := Bool.and_eq_true_iff

/-- The erase symbol and its unit (41_identification.md rule R160). -/
theorem deriveDev_erase (c : Config) (i : Nat) (d : ChipDescriptor) (r : List Byte) (old : Dev) :
    (use4kErase c d = true → (deriveDev c i d r old).eraseOpcode = .be4k ∧ (deriveDev c i d r old).eraseSize = 4096)
    ∧ (¬ use4kErase c d = true → (deriveDev c i d r old).eraseOpcode = .se
        ∧ (deriveDev c i d r old).eraseSize = (deriveDev c i d r old).sectorSize) :=
  ⟨fun h => ⟨if_pos h, if_pos h⟩, fun h => ⟨if_neg h, if_neg h⟩⟩

/-- Settles O37: the numbers by their lemmas; the modes, the window and what is not derived are copied. -/
theorem geometryDerivation : Obligations.GeometryDerivation := by
  intro c i d r old hd _ v ext code page
  have hpage : derivedPageSize c d r = page := if_congr (pageQuirk_iff c r) rfl rfl
  obtain ⟨herase4k, hsector⟩ := deriveDev_erase c i d r old
  rw [use4kErase_iff] at herase4k hsector
  refine ⟨rfl, rfl, rfl, dummyCycles_eq _, deriveDev_addrWidth hd i r old, fun hfits => ?pageSize,
    deriveDev_pageSize_pos hd i r old, herase4k, hsector, rfl, rfl, rfl⟩
  case pageSize =>
    rw [← hpage] at hfits ⊢
    exact deriveDev_pageSize hfits i old

end Sys2Proof.Machine
end

section
/-!
SUPPORT. What a frame leaves of the chip `WB` (95_test_vectors.md section 5), said once for every instruction: which byte of
the array changes and to what (`Chip.after_read`), and which registers do not.
-/

namespace Sys2Proof.Machine

open Sys2Proof

/-! ## The array -/

section

variable {ch : Chip} (c : Config)

/-- A page program frame and the frame of a unit differ in the write-enable latch only (log entry 10). -/
theorem Chip.programUnit_mem (a : Word64) (data : List Byte) :
    (ch.programUnit c a data).mem = (ch.programArray c a data).mem := by
  unfold Chip.programUnit Chip.programArray
  split <;> rfl

/-- A program frame: the bitwise AND of old and new where it may change the array. -/
theorem Chip.programArray_read (hmem : ch.mem.wf) (a : Word64) (data : List Byte) (x : Nat) :
    (ch.programArray c a data).mem.read x =
      if ch.mayChange c (.pp a data) x then ch.mem.read x &&& data.getD (x - a.toNat) 0 else ch.mem.read x := by
  unfold Chip.programArray Chip.mayChange
  cases ch.wel with
  | false => rfl
  | true => simp only [if_true, Memory.read_program hmem, Bool.true_and, decide_eq_true_eq]

/-- An erase frame: the erased byte in its whole unit, or nothing where that reaches into the protected suffix. -/
theorem Chip.eraseUnit_read (a : Word64) (unit x : Nat) :
    (ch.eraseUnit c a unit).mem.read x =
      if ch.wel && ch.mayErase c a unit x then erasedByte else ch.mem.read x := by
  unfold Chip.eraseUnit Chip.mayErase
  cases ch.wel with
  | false => rfl
  | true =>
    by_cases hfree : a.toNat - a.toNat % unit + unit ≤ ch.limit c
    · simp only [if_true, hfree, Memory.read_eraseRange, and_true, Bool.true_and, decide_eq_true_eq]
    · simp only [if_true, hfree, if_false, and_false, Bool.true_and, decide_false, Bool.false_eq_true]

/-- A register write leaves the array. -/
theorem Chip.writeRegister_mem (p : List Byte) : (ch.writeRegister p).mem = ch.mem := by
  unfold Chip.writeRegister
  repeat' split
  all_goals rfl

/-- The byte the frame `i` leaves at an address it may change. `Chip.after_read` ties it to the chip. -/
def Chip.byteLeft (ch : Chip) (i : Instr) (x : Nat) : Byte :=
  match i with
  | .pp a data | .ppQuad a data | .bp a data | .aaiWp a data => ch.mem.read x &&& data.getD (x - a.toNat) 0
  | .se _ | .be4k _ => erasedByte
  | _ => ch.mem.read x

/-- Every byte of the array after a frame. -/
theorem Chip.after_read (hmem : ch.mem.wf) (i : Instr) (x : Nat) :
    (ch.after c i).mem.read x = if ch.mayChange c i x then ch.byteLeft i x else ch.mem.read x := by
  cases i with
  | pp a data | ppQuad a data => exact Chip.programArray_read c hmem a data x
  | bp a data | aaiWp a data =>
    rw [Chip.after, Chip.programUnit_mem]
    exact Chip.programArray_read c hmem a data x
  | se a => exact Chip.eraseUnit_read c a ch.desc.sectorSize x
  | be4k a => exact Chip.eraseUnit_read c a 4096 x
  | wrsr p | wrvr _ p =>
    rw [Chip.after, Chip.writeRegister_mem]
    exact (ite_self _).symm
  | _ => exact (ite_self _).symm

/-! ## The registers -/

theorem Chip.writeRegister_desc (p : List Byte) : (ch.writeRegister p).desc = ch.desc := by
  unfold Chip.writeRegister
  repeat' split
  all_goals rfl

/-- An instruction that writes no register of the chip changes its array and its write-enable latch at most. -/
theorem Chip.after_of_no_registerWrite {i : Instr} (hwrsr : ∀ p, i ≠ .wrsr p) (hwrvr : ∀ op p, i ≠ .wrvr op p) :
    ∃ mem wel, ch.after c i = { ch with mem := mem, wel := wel } := by
  cases i with
  | wrsr p => exact absurd rfl (hwrsr p)
  | wrvr op p => exact absurd rfl (hwrvr op p)
  | pp | ppQuad =>
    simp only [Chip.after, Chip.programArray]
    split <;> exact ⟨_, _, rfl⟩
  | bp | aaiWp =>
    simp only [Chip.after, Chip.programUnit]
    split <;> exact ⟨_, _, rfl⟩
  | se | be4k =>
    simp only [Chip.after, Chip.eraseUnit]
    repeat' split
    all_goals exact ⟨_, _, rfl⟩
  | _ => exact ⟨_, _, rfl⟩

/-- No frame makes another chip of it. -/
theorem Chip.after_desc (i : Instr) : (ch.after c i).desc = ch.desc := by
  by_cases hwrite : (∀ p, i ≠ .wrsr p) ∧ ∀ op p, i ≠ .wrvr op p
  · obtain ⟨mem, wel, hafter⟩ := Chip.after_of_no_registerWrite c hwrite.1 hwrite.2 (ch := ch)
    rw [hafter]
  · cases i with
    | wrsr p | wrvr _ p => exact Chip.writeRegister_desc p
    | _ => exact absurd ⟨nofun, nofun⟩ hwrite

/-- A host command is no frame, and `WB` has no answer to it. -/
theorem Chip.answer_of_host {i : Instr} (hi : i.isHost = true) : ch.answer c i = none := by
  cases i with
  | identify | read | write | erase | lock | unlock | geometry | reprobe | isLocked => rfl
  | _ => cases hi

/-- A frame that `WB` has no answer to does nothing to it (log entry 22). -/
theorem Chip.after_of_unanswered {i : Instr} (h : ch.answer c i = none) : ch.after c i = ch := by
  cases i with
  | wrsr | wren | wrdi | wrvr | pp | ppQuad | bp | aaiWp | se | be4k => cases h
  | _ => rfl

end

end Sys2Proof.Machine
end

section
/-!
PROOFS. Of an instruction only its exchange moves the transport, and behind the chip `WB` that exchange is the frame's effect
on the chip (20_memory.md rule R62; 95_test_vectors.md section 5): O57.
-/

namespace Sys2Proof.Machine

open Sys2Proof

/-! ## What does not move the transport -/

section

variable (s : State)

/-- A row of the transition table leaves the transport as both its columns do. -/
theorem State.resume_transport (a : Answer) (n : Nat) {f : State → State} {k : List Byte → State → State}
    (hf : ∀ u : State, (f u).env.transport = u.env.transport)
    (hk : ∀ rx (u : State), (k rx u).env.transport = u.env.transport) :
    (s.resume a n f k).env.transport = s.env.transport :=
  State.resume_of (P := fun t => t.env.transport = s.env.transport) (fun c => hf (s.setCause c)) (hk _ s)

theorem State.cont_transport : s.cont.env.transport = s.env.transport := by
  simp only [State.cont, State.contPage, State.contUnit, State.contErase]
  repeat' split
  all_goals rfl

theorem State.failPoll_transport (e : Status) : (s.failPoll e).env.transport = s.env.transport := by
  unfold State.failPoll
  split <;> rfl

/-- The clock is not the transport (60_exceptions.md rule R325). -/
theorem State.decideReady_transport (ready : Bool) : (s.decideReady ready).env.transport = s.env.transport := by
  rcases s.decideReady_cases ready with ⟨-, h⟩ | ⟨-, -, h⟩ | ⟨-, -, h⟩ <;> rw [h]
  · exact s.cont_transport
  · exact s.afterSample.failPoll_transport _
  · rfl

theorem State.pollStatus_transport (rx : List Byte) : (s.pollStatus rx).env.transport = s.env.transport := by
  simp only [State.pollStatus]
  split
  · rfl
  · exact (s.setSrOld (rx.headD 0)).decideReady_transport _

theorem State.closeWith_transport (a : Answer) : (s.closeWith a).env.transport = s.env.transport := by
  unfold State.closeWith
  repeat' split
  all_goals rfl

theorem State.afterLQ_transport (a : Option Bool) : (s.afterLQ a).env.transport = s.env.transport := by
  simp only [State.afterLQ]
  repeat' split
  all_goals rfl

/-- Asking the lock collaborator is no exchange (44_protection_codec.md rule R236). -/
theorem State.lqHead_transport : s.lqHead.env.transport = s.env.transport := by
  unfold State.lqHead
  split
  · exact s.afterLQ_transport _
  · exact s.afterLockAnswer.afterLQ_transport _
  · split
    · exact s.afterLQ_transport _
    · rfl

theorem State.lockRead_transport (rx : List Byte) : (s.lockRead rx).env.transport = s.env.transport := by
  simp only [State.lockRead]
  split <;> rfl

theorem State.unlockRead_transport (rx : List Byte) : (s.unlockRead rx).env.transport = s.env.transport := by
  simp only [State.unlockRead]
  split <;> rfl

theorem State.quadFirstRead_transport (v : QuadProc) (rx : List Byte) :
    (s.quadFirstRead v rx).env.transport = s.env.transport := by
  simp only [State.quadFirstRead]
  split <;> rfl

theorem State.quadReadBack_transport (v : QuadProc) (rx : List Byte) :
    (s.quadReadBack v rx).env.transport = s.env.transport := by
  simp only [State.quadReadBack]
  split <;> rfl

theorem State.identifyAnswered_transport (a : Answer) : (s.identifyAnswered a).env.transport = s.env.transport := by
  simp only [State.identifyAnswered, State.identifyWith, State.identifyMatched]
  repeat' split
  all_goals rfl

theorem State.afterArrayRead_transport (a : Answer) (n : Word64) :
    (s.afterArrayRead a n).env.transport = s.env.transport := by
  unfold State.afterArrayRead
  split
  · exact s.resume_transport a _ (fun _ => rfl) fun _ _ => rfl
  · rfl

theorem State.afterPageProgram_transport (a : Answer) : (s.afterPageProgram a).env.transport = s.env.transport := by
  unfold State.afterPageProgram
  split
  · exact s.resume_transport a _ (fun _ => rfl) fun _ _ => rfl
  · rfl

theorem State.afterUnitProgram_transport (a : Answer) : (s.afterUnitProgram a).env.transport = s.env.transport := by
  unfold State.afterUnitProgram
  split
  · exact s.resume_transport a _ (fun _ => rfl) fun _ _ => rfl
  · rfl

theorem State.afterEraseFrame_transport (a : Answer) : (s.afterEraseFrame a).env.transport = s.env.transport := by
  unfold State.afterEraseFrame
  split
  · exact s.resume_transport a _ (fun _ => rfl) fun _ _ => rfl
  · rfl

/-- RDSR, by the rest state that issues it. -/
theorem execRdsr_transport :
    ∃ t, execRdsr s = .next t ∧ t.env.transport = (s.exchange .rdsr).2.env.transport := by
  refine ⟨_, rfl, ?_⟩
  split
  · exact State.resume_transport _ _ _ (fun _ => rfl) fun _ _ => rfl
  · exact State.resume_transport _ _ _ (fun _ => rfl) fun _ u => u.afterLQ_transport _
  · exact State.resume_transport _ _ _ (fun _ => rfl) fun rx u => u.lockRead_transport rx
  · exact State.resume_transport _ _ _ (fun _ => rfl) fun rx u => u.unlockRead_transport rx
  · exact State.resume_transport _ _ _ (fun _ => rfl) fun _ _ => rfl
  · exact State.resume_transport _ _ _ (fun u => u.failPoll_transport _) fun rx u => u.pollStatus_transport rx
  · rfl

theorem State.withPrecheck_transport {k : State → State} (hk : (k s).env.transport = s.env.transport) :
    (s.withPrecheck k).env.transport = s.env.transport := by
  unfold State.withPrecheck
  split
  · rfl
  · exact hk

theorem State.protectionHead_transport (f : FsmState) : (s.protectionHead f).env.transport = s.env.transport := by
  refine s.withPrecheck_transport ?_
  split <;> rfl

theorem State.whenIdle_transport {k : State → State} (hk : (k s).env.transport = s.env.transport) :
    (s.whenIdle k).env.transport = s.env.transport := by
  unfold State.whenIdle
  split
  · exact hk
  · rfl

end

/-! ## What an instruction does to the transport -/

/-- The acceptance step issues no exchange (46_sequencer.md rule R279). -/
theorem exec_host_transport {s t : State} {i : Instr} (hi : i.isHost = true) (ht : exec i s = .next t) :
    t.env.transport = s.env.transport := by
  cases i with
  | identify off len | geometry off len | read off len =>
    cases ht
    exact s.whenIdle_transport (by dsimp only; split <;> rfl)
  | reprobe off len => cases ht; exact s.whenIdle_transport rfl
  | write off len wbuf =>
    cases ht
    exact s.whenIdle_transport (State.withPrecheck_transport _ (State.lqHead_transport _))
  | erase off len =>
    cases ht
    refine s.whenIdle_transport (State.withPrecheck_transport _ ?_)
    split
    · exact State.lqHead_transport _
    · rfl
  | lock off len | unlock off len | isLocked off len =>
    cases ht
    exact s.whenIdle_transport (State.protectionHead_transport _ _)
  | _ => cases hi

/-- A frame's step moves the transport by its exchange only (46_sequencer.md rule R277). -/
theorem exec_frame_transport {s t : State} {i : Instr} (hi : i.isHost = false) (ht : exec i s = .next t) :
    t.env.transport = (s.exchange i).2.env.transport := by
  cases i with
  | identify | read | write | erase | lock | unlock | geometry | reprobe | isLocked => cases hi
  | rdid =>
    cases ht
    split
    · exact State.identifyAnswered_transport _ _
    · rfl
  | rdsr =>
    obtain ⟨u, hu, htransport⟩ := execRdsr_transport s
    cases ht.symm.trans hu
    exact htransport
  | rdfsr =>
    cases ht
    split
    · exact State.resume_transport _ _ _ (fun u => u.failPoll_transport _) fun _ u => State.decideReady_transport _ _
    · rfl
  | wrdi =>
    cases ht
    split
    · exact State.closeWith_transport _ _
    · exact State.closeWith_transport _ _
    · rfl
  | rdvr =>
    cases ht
    split
    · exact State.resume_transport _ _ _ (fun _ => rfl) fun rx u => u.quadFirstRead_transport _ rx
    · exact State.resume_transport _ _ _ (fun _ => rfl) fun rx u => u.quadReadBack_transport _ rx
    · rfl
  | wrsr =>
    cases ht
    split
    case h_3 => rfl
    all_goals exact State.resume_transport _ _ _ (fun _ => rfl) fun _ _ => rfl
  | wren =>
    cases ht
    split
    case h_7 => rfl
    all_goals exact State.resume_transport _ _ _ (fun _ => rfl) fun _ _ => rfl
  | wrvr =>
    cases ht
    split
    · exact State.resume_transport _ _ _ (fun _ => rfl) fun _ _ => rfl
    · rfl
  | readFrame | readFast | readDual | readQuad | readQuadIo => cases ht; exact State.afterArrayRead_transport _ _ _
  | pp | ppQuad => cases ht; exact State.afterPageProgram_transport _ _
  | bp | aaiWp => cases ht; exact State.afterUnitProgram_transport _ _
  | se | be4k => cases ht; exact State.afterEraseFrame_transport _ _

section

variable {s : State} {ch : Chip} (h : s.env.transport = .wellBehaved ch)

include h

/-- Behind the chip an exchange is the frame's effect on it, answered by the chip or not. -/
theorem State.exchange_transport {i : Instr} (hi : i.isHost = false) :
    (s.exchange i).2.env.transport = .wellBehaved (ch.after s.cfg i) := by
  obtain ⟨x, hx⟩ := exists_encodeFrame hi s.cfg s.geom
  cases ha : ch.answer s.cfg i with
  | some a => exact State.exchange_chip h hx ha
  | none =>
    rw [Chip.after_of_unanswered s.cfg ha]
    simp only [State.exchange_of_frame hx, State.transfer_env, State.envAfter, h, ha]

/-- Behind the chip every instruction, in any rest state, is its effect on the chip. -/
theorem exec_transport {t : State} {i : Instr} (ht : exec i s = .next t) :
    t.env.transport = .wellBehaved (ch.after s.cfg i) := by
  cases hi : i.isHost with
  | false => rw [exec_frame_transport hi ht, State.exchange_transport h hi]
  | true => rw [exec_host_transport hi ht, h, Chip.after_of_unanswered s.cfg (Chip.answer_of_host s.cfg hi)]

end

/-- Settles O57: the chip after the instruction is `Chip.after`, whose bytes and registers the lemmas above give. -/
theorem instructionsTouchOnlyTheirBytes : Obligations.InstructionsTouchOnlyTheirBytes := by
  intro s i t ch hch hmem ht
  refine ⟨ch.after s.cfg i, exec_transport hch ht, Chip.after_desc s.cfg i, fun a hfixed => ?kept,
    fun a hmay => ⟨fun addr hi => ?erased, fun addr data hi => ?programmed⟩, fun hwrsr hwrvr => ?registers⟩
  case kept => rw [Chip.after_read s.cfg hmem, hfixed, if_neg nofun]
  case erased =>
    rw [Chip.after_read s.cfg hmem, if_pos hmay]
    rcases hi with rfl | rfl <;> rfl
  case programmed =>
    rw [Chip.after_read s.cfg hmem, if_pos hmay]
    rcases hi with rfl | rfl | rfl | rfl <;> rfl
  case registers =>
    obtain ⟨mem, wel, hafter⟩ := Chip.after_of_no_registerWrite s.cfg hwrsr hwrvr (ch := ch)
    rw [hafter]
    exact ⟨rfl, rfl⟩

end Sys2Proof.Machine
end
